-- ==== Sys2Proof/Word.lean ====
section
/-! DEFINITION. The words of the block: bytes, request words, and the seven-byte Time Record. -/

namespace Sys2Proof

/-- A `u8` (R9). -/
abbrev Byte := BitVec 8

/-- A request word REQ (R100). -/
abbrev ReqWord := BitVec 64

/-- A Time Record: seven bytes, field i at index i of the wire order (R45). -/
structure TimeRecord where
  seconds : Byte
  minutes : Byte
  hours   : Byte
  day     : Byte
  weekday : Byte
  month   : Byte
  year    : Byte
deriving DecidableEq, Repr

end Sys2Proof
end

