-- ==== Sys2Proof/Config.lean ====
section
/-! DEFINITION. The implementation parameters of R7 (spec/00_scope.md), and the free values: constants with no
body, of which nothing can be proved. -/

namespace Sys2Proof

/-- The 2-bit codes of the countdown source in bits 1:0 of register 0x0E (R77). -/
structure SrcCodes where
  khz4      : BitVec 2
  hz64      : BitVec 2
  hz1       : BitVec 2
  perMinute : BitVec 2
deriving DecidableEq, Repr

/-- VERIFY_READBACK (R7): what Verify compares. -/
inductive Readback where
  | cfgAndCount
  | cfgOnly
deriving DecidableEq, Repr

/-- PERIOD_MS_FN (R7, R191): the exact conversion, or any other function given by its values at 0, 1, 2, …
(beyond the list's end it is the exact one). Log 8. -/
inductive PeriodFn where
  | exact
  | table (values : List (BitVec 16))
deriving DecidableEq, Repr

/-- The parameters of R7 that an instance may choose; fixed for its life (R51). -/
structure Params where
  /-- HAS_IRQ: an interrupt source is configured. -/
  hasIrq         : Bool
  /-- HAS_SINK: a diagnostic sink is configured. -/
  hasSink        : Bool
  /-- STOP_GUARDED: StopTimer refuses while faulted. -/
  stopGuarded    : Bool
  /-- WRITE_MASK, the command-byte mask of write mode. -/
  writeMask      : Byte
  /-- READ_MASK, the command-byte mask of read mode. -/
  readMask       : Byte
  /-- WEEKDAY_SENTINEL, the weekday byte ENCODE writes. -/
  weekday        : Byte
  /-- RESET_REG, the register of the peripheral reset command (a defined address, 0x00-0x0F). -/
  resetReg       : BitVec 4
  /-- RESET_VALUE, the byte of the peripheral reset command. -/
  resetValue     : Byte
  /-- CTRL2_TIE_VALUE, the only byte the block writes to register 0x01 (R116). -/
  ctrl2Tie       : Byte
  /-- COF_DISABLED, the clock-output-disabled bits of register 0x0E. -/
  cofDisabled    : Byte
  /-- TE_BIT, the timer-enable bit of register 0x0E. -/
  teBit          : Byte
  /-- SRC_CODE, the four source codes. -/
  srcCodes       : SrcCodes
  /-- VERIFY_READBACK. -/
  verifyReadback : Readback
  /-- VERIFY_WAIT_MS: no rule reads it, since the model has no time (R228, R314). -/
  verifyWaitMs   : Nat
  /-- DECODE_MASKS, one mask a field (the weekday's is not used). -/
  decodeMasks    : TimeRecord
  /-- PERIOD_MS_FN. -/
  periodFn       : PeriodFn
deriving DecidableEq, Repr

/-- TIME_RECORD_SIZE (R7). -/
def timeRecordSize : Nat := 7

/-- ADDR_WIDTH (R7): the width of the register-address field of a command byte, kept by conflict C9. -/
abbrev addrWidth : Nat := 6

/-- The last defined register address of REG_MAP (R7, R70). -/
def lastRegister : Nat := 0x0F

/-- SRC_HZ (R7): the countdown source frequency the block uses. -/
def srcHz : Nat := 64

/-- Free value: the `n`-th byte the bus returns where no draw is listed (R80). Log 4. -/
opaque Config.draw : Nat → Byte

/-- Free value: what peripheral register `a` held before the block wrote it (R81: the initial contents are a
draw). Log 5. -/
opaque Config.pregInit : Nat → Byte

/-- Free value: WEEKDAY_SENTINEL, OPEN in R7. Log 7. -/
opaque Config.weekdaySentinel : Byte

/-- Free value: VERIFY_WAIT_MS, OPEN in R7. Log 7. -/
opaque Config.verifyWaitMs : Nat

/-- Free value: HAS_IRQ, the configuration of the instance (R7, R51). Log 7. -/
opaque Config.hasIrq : Bool

/-- Free value: HAS_SINK, the configuration of the instance (R7). Log 7. -/
opaque Config.hasSink : Bool

/-- R7's defaults (PRESUMED where R7 marks them [GK], log 7), with the free values where R7 gives none. -/
def Params.default : Params where
  hasIrq         := Config.hasIrq
  hasSink        := Config.hasSink
  stopGuarded    := false
  writeMask      := 0x10
  readMask       := 0x90
  weekday        := Config.weekdaySentinel
  resetReg       := 0x0
  resetValue     := 0x58
  ctrl2Tie       := 0x01
  cofDisabled    := 0x70
  teBit          := 0x08
  srcCodes       := { khz4 := 0, hz64 := 1, hz1 := 2, perMinute := 3 }
  verifyReadback := .cfgAndCount
  verifyWaitMs   := Config.verifyWaitMs
  decodeMasks    := ⟨0xFF, 0xFF, 0xFF, 0xFF, 0xFF, 0xFF, 0xFF⟩
  periodFn       := .exact

end Sys2Proof
end

