-- ==== Sys2Proof/Syntax.lean ====
section
/-! DEFINITION. The operations of the block as syntax: one constructor per row of spec/opcode_table.json, the raw
words they are read from, and the reasons a request is refused. -/

namespace Sys2Proof

/-- One constructor per row of the opcode table (R108, and the bus command bytes of R113). Bytes of the data-in
channel DIN are no part of the word: they stand in the request (`Request.din`). -/
inductive Instr where
  /-- OP 0x01 (R140): unpack BCD byte `b`. -/
  | bcd2dec (b : Byte)
  /-- OP 0x02 (R141): pack `d`. -/
  | dec2bcd (d : Byte)
  /-- OP 0x03 (R142): timestamp `t` to Time Record. -/
  | encode (t : BitVec 32)
  /-- OP 0x04 (R143): the record in DIN to a timestamp. -/
  | decode
  /-- OP 0x05 (R148): the record in DIN as text. -/
  | format
  /-- OP 0x10 (R166): read one register. -/
  | rdreg (addr : Byte)
  /-- OP 0x11 (R167): write `v` to one register. -/
  | wrreg (addr v : Byte)
  /-- OP 0x12 (R168): burst read. -/
  | brd (first count : Byte)
  /-- OP 0x13 (R169): burst write of DIN. -/
  | bwr (first count : Byte)
  /-- OP 0x20 (R192): set the timer period to `k` ticks, 0 = OFF. -/
  | setper (k : Byte)
  /-- OP 0x21 (R193): stop the timer. -/
  | stop
  /-- OP 0x22 (R194): read the cached period. -/
  | getper
  /-- OP 0x23 (R195): read and clear the tick flag. -/
  | consume
  /-- OP 0x24 (R196): read the millisecond accumulator. -/
  | getms
  /-- OP 0x30 (R222): Setup. -/
  | setup
  /-- OP 0x31 (R230): read the Time Record. -/
  | gettime
  /-- OP 0x32 (R231): read the time as a timestamp. -/
  | getts
  /-- OP 0x33 (R232): write the record in DIN. -/
  | settime
  /-- OP 0x34 (R233): read FAULT and INITED. -/
  | status
  /-- OP 0x3F (R225): Verify, an internal step code (R110). -/
  | verify
  /-- OP 0x40 (R250): command boundary request. -/
  | cmd (kind len : Byte)
  /-- OP 0xF0 (R197): the interrupt service, an internal event code (R110). -/
  | irqsvc
  /-- Bus command byte WRITE_MASK | addr (R113); the operand is the table's addr, bits 3:0 of the six-bit address field,
  whose other two bits are 0 (log 27). -/
  | busWrite (addr : BitVec 4)
  /-- Bus command byte READ_MASK | addr (R113), as for `busWrite`. -/
  | busRead (addr : BitVec 4)
deriving DecidableEq, Repr

/-- What an operation is read from: a request word (R100) or a bus command byte (R113). -/
inductive Code where
  | req (w : ReqWord)
  | bus (b : Byte)
deriving DecidableEq, Repr

/-- One request on the request port: the word REQ and the bytes on the data-in channel (R100). -/
structure Request where
  word : ReqWord
  din  : List Byte
deriving DecidableEq, Repr

/-- Why a request is refused (R262's table). -/
inductive Reason where
  /-- An OP not in the opcode map (R109). -/
  | reservedOp
  /-- A host request with OP 0x3F or 0xF0 (R110). -/
  | internalOp
  /-- RSV or an unused field is not 0 (R104). -/
  | reservedField
  /-- The DIN length is not as the operation needs (R107). -/
  | badLength
  /-- An address above 0x0F, or a burst past 0x0F (R79). -/
  | badAddress
  /-- Burst count 0 (R168, R169). -/
  | badCount
  /-- A bus operation before the first SETUP (R221). -/
  | notInitialized
  /-- A second block bound to one interrupt line (R8). -/
  | secondInstance
deriving DecidableEq, Repr

/-- The code of a reason (R262's table). -/
def Reason.code : Reason → Nat
  | .reservedOp => 1
  | .internalOp => 2
  | .reservedField => 3
  | .badLength => 4
  | .badAddress => 5
  | .badCount => 6
  | .notInitialized => 7
  | .secondInstance => 8

end Sys2Proof
end

