-- ==== Sys2Proof/WellFormed.lean ====
section
/-! DEFINITION. Which operands are legal (R102, R103). An ill-formed operation still decodes (R111 does not look at
operand values) and its meaning then refuses it by the spec's reason. -/

namespace Sys2Proof

/-- A register address is defined: 0x00-0x0F (R79, R102). -/
def addrLegal (addr : Byte) : Bool := decide (addr.toNat ≤ lastRegister)

/-- A burst moves at least one byte and its last address `first + count - 1` is defined (R79, R85, R103). -/
def burstLegal (first count : Byte) : Bool :=
  decide (1 ≤ count.toNat) && decide (first.toNat + count.toNat - 1 ≤ lastRegister)

/-- The operands the encoding rules call legal. -/
def Instr.wf : Instr → Bool
  | .rdreg addr => addrLegal addr
  | .wrreg addr _ => addrLegal addr
  | .brd first count => burstLegal first count
  | .bwr first count => burstLegal first count
  | .bcd2dec _ => true
  | .dec2bcd _ => true
  | .encode _ => true
  | .decode => true
  | .format => true
  | .setper _ => true
  | .stop => true
  | .getper => true
  | .consume => true
  | .getms => true
  | .setup => true
  | .gettime => true
  | .getts => true
  | .settime => true
  | .status => true
  | .verify => true
  | .cmd _ _ => true
  | .irqsvc => true
  | .busWrite _ => true
  | .busRead _ => true

end Sys2Proof
end

