-- ==== Sys2Proof/Decode.lean ====
section
/-! DEFINITION. Decoding a request word (R100-R111) and a bus command byte (R113, R114), then the encoder. Both are
total; a word that is no operation is rejected by the reason of R262. -/

namespace Sys2Proof

/-- OP = REQ[7:0] (R101). -/
def opOf (w : ReqWord) : Byte := w.extractLsb' 0 8
/-- A = REQ[15:8] (R102). -/
def aOf (w : ReqWord) : Byte := w.extractLsb' 8 8
/-- B = REQ[23:16] (R103). -/
def bOf (w : ReqWord) : Byte := w.extractLsb' 16 8
/-- RSV = REQ[31:24] (R104). -/
def rsvOf (w : ReqWord) : Byte := w.extractLsb' 24 8
/-- T = REQ[63:32] (R105). -/
def tOf (w : ReqWord) : BitVec 32 := w.extractLsb' 32 32

/-- One row of the opcode map of R108: the OP value, which of A, B and T the operation uses, and the operation
built from the three fields. -/
structure OpRow where
  op    : Byte
  usesA : Bool
  usesB : Bool
  usesT : Bool
  build : Byte → Byte → BitVec 32 → Instr

/-- The opcode map (R108), in its order. -/
def opRows : List OpRow :=
  [⟨0x01, true, false, false, fun a _ _ => .bcd2dec a⟩,
   ⟨0x02, true, false, false, fun a _ _ => .dec2bcd a⟩,
   ⟨0x03, false, false, true, fun _ _ t => .encode t⟩,
   ⟨0x04, false, false, false, fun _ _ _ => .decode⟩,
   ⟨0x05, false, false, false, fun _ _ _ => .format⟩,
   ⟨0x10, true, false, false, fun a _ _ => .rdreg a⟩,
   ⟨0x11, true, true, false, fun a b _ => .wrreg a b⟩,
   ⟨0x12, true, true, false, fun a b _ => .brd a b⟩,
   ⟨0x13, true, true, false, fun a b _ => .bwr a b⟩,
   ⟨0x20, true, false, false, fun a _ _ => .setper a⟩,
   ⟨0x21, false, false, false, fun _ _ _ => .stop⟩] ++
  [⟨0x22, false, false, false, fun _ _ _ => .getper⟩,
   ⟨0x23, false, false, false, fun _ _ _ => .consume⟩,
   ⟨0x24, false, false, false, fun _ _ _ => .getms⟩,
   ⟨0x30, false, false, false, fun _ _ _ => .setup⟩,
   ⟨0x31, false, false, false, fun _ _ _ => .gettime⟩,
   ⟨0x32, false, false, false, fun _ _ _ => .getts⟩,
   ⟨0x33, false, false, false, fun _ _ _ => .settime⟩,
   ⟨0x34, false, false, false, fun _ _ _ => .status⟩,
   ⟨0x3F, false, false, false, fun _ _ _ => .verify⟩,
   ⟨0x40, true, true, false, fun a b _ => .cmd a b⟩,
   ⟨0xF0, false, false, false, fun _ _ _ => .irqsvc⟩]

/-- Every field the row does not use, and RSV, is 0 (R104). -/
def OpRow.unusedZero (r : OpRow) (w : ReqWord) : Bool :=
  rsvOf w == 0 && (r.usesA || aOf w == 0) && (r.usesB || bOf w == 0) && (r.usesT || tOf w == 0)

/-- The table's reading of a word: steps (1) and (3) of R111. R108: a word matches a row exactly when these two
accept it. -/
def decodeWord (w : ReqWord) : Except Reason Instr :=
  match opRows.find? (fun r => r.op == opOf w) with
  | none => .error .reservedOp
  | some r => if r.unusedZero w then .ok (r.build (aOf w) (bOf w) (tOf w)) else .error .reservedField

/-- OP names a step the block takes on its own (R110). -/
def internalOp (op : Byte) : Bool := op == 0x3F || op == 0xF0

/-- A request from the HOST: steps (1), (2) and (3) of R111. Step (4), the DIN length, is the first check of each
operation's meaning (`Machine.dinDefect`), so the order of R111 holds. -/
def decodeRequest (w : ReqWord) : Except Reason Instr :=
  if internalOp (opOf w) then .error .internalOp else decodeWord w

/-- How many DIN bytes an operation takes (R107); one that R107 does not name takes none (DEDUCED, log 10). -/
def dinLength : Instr → Nat
  | .decode => timeRecordSize
  | .format => timeRecordSize
  | .settime => timeRecordSize
  | .bwr _ count => count.toNat
  | .cmd _ len => len.toNat
  | .bcd2dec _ => 0
  | .dec2bcd _ => 0
  | .encode _ => 0
  | .rdreg _ => 0
  | .wrreg _ _ => 0
  | .brd _ _ => 0
  | .setper _ => 0
  | .stop => 0
  | .getper => 0
  | .consume => 0
  | .getms => 0
  | .setup => 0
  | .gettime => 0
  | .getts => 0
  | .status => 0
  | .verify => 0
  | .irqsvc => 0
  | .busWrite _ => 0
  | .busRead _ => 0

/-- The register-address field of a command byte (ADDR_WIDTH, R7). A legal address is at most 0x0F, so bits 5:4 of the
field are 0 (R79, R113, conflict C9). Log 27. -/
def addrField (addr : Byte) : BitVec addrWidth := addr.setWidth addrWidth

/-- The command byte of R113: a mode's mask OR the register-address field. -/
def busCommand (mask : Byte) (field : BitVec addrWidth) : Byte := mask ||| field.setWidth 8

/-- A bus command byte under the masks `wm` and `rm`: bits 7:4 select the mode and bits 3:0 are the address
(R113, R114): of the address field's six bits the upper two are 0 and stand under the mask (C9, log 27). Any other byte
is no command. -/
def decodeBus (wm rm : Byte) (b : Byte) : Option Instr :=
  if b &&& 0xF0 = wm &&& 0xF0 then some (.busWrite (b.extractLsb' 0 4))
  else if b &&& 0xF0 = rm &&& 0xF0 then some (.busRead (b.extractLsb' 0 4))
  else none

/-- The default command bytes of R114 are used where a byte is read without a machine. -/
def decodeBusDefault (b : Byte) : Option Instr :=
  decodeBus Params.default.writeMask Params.default.readMask b

/-- Decoding of a raw code: a request word by the opcode map, a bus byte by its masks; rejected by reason. -/
def decodeCode : Code → Except Reason Instr
  | .req w => decodeWord w
  | .bus b => match decodeBusDefault b with
    | some i => .ok i
    | none => .error .reservedOp

/-- The raw code of a table word of `nbits` bits: an 8-bit word that is a bus command byte is one; every other is a
request word whose bits above `nbits` are 0. Log 1. -/
def tableCode (nbits w : Nat) : Code :=
  if nbits = 8 ∧ w < 256 ∧ (decodeBusDefault (BitVec.ofNat 8 w)).isSome then .bus (BitVec.ofNat 8 w)
  else .req (BitVec.ofNat 64 w)

/-- The operation the decoder reads from a table word; none where it refuses. -/
def decodeTableWord (nbits w : Nat) : Option Instr :=
  match decodeCode (tableCode nbits w) with
  | .ok i => some i
  | .error _ => none

/-- The request word {T, RSV, B, A, OP} with RSV = 0 (R100, R119). -/
def mkReq (op a b : Byte) (t : BitVec 32) : Code := .req (t ++ 0#8 ++ b ++ a ++ op)

/-- The encoder, from the opcode map of R108, the field rules R100-R105 and the default command bytes of R114. -/
def encodeInstr : Instr → Code
  | .bcd2dec b => mkReq 0x01 b 0 0
  | .dec2bcd d => mkReq 0x02 d 0 0
  | .encode t => mkReq 0x03 0 0 t
  | .decode => mkReq 0x04 0 0 0
  | .format => mkReq 0x05 0 0 0
  | .rdreg addr => mkReq 0x10 addr 0 0
  | .wrreg addr v => mkReq 0x11 addr v 0
  | .brd first count => mkReq 0x12 first count 0
  | .bwr first count => mkReq 0x13 first count 0
  | .setper k => mkReq 0x20 k 0 0
  | .stop => mkReq 0x21 0 0 0
  | .getper => mkReq 0x22 0 0 0
  | .consume => mkReq 0x23 0 0 0
  | .getms => mkReq 0x24 0 0 0
  | .setup => mkReq 0x30 0 0 0
  | .gettime => mkReq 0x31 0 0 0
  | .getts => mkReq 0x32 0 0 0
  | .settime => mkReq 0x33 0 0 0
  | .status => mkReq 0x34 0 0 0
  | .verify => mkReq 0x3F 0 0 0
  | .cmd kind len => mkReq 0x40 kind len 0
  | .irqsvc => mkReq 0xF0 0 0 0
  | .busWrite addr => .bus (busCommand Params.default.writeMask (addrField (addr.setWidth 8)))
  | .busRead addr => .bus (busCommand Params.default.readMask (addrField (addr.setWidth 8)))

end Sys2Proof
end

