-- ==== Sys2Proof/Machine/State.lean ====
section
/-! DEFINITION. The state of the block (spec/10_state.md), of the agents around it (R4), and the machine right after
power-on reset (R48, R300). Plain data throughout. -/

namespace Sys2Proof.Machine

/-- Which context executes (R40). -/
inductive Ctx where
  | main
  | isr
deriving DecidableEq, Repr

/-- The step pointer SEQ (R38): the micro-step of SETUP (R222) or VERIFY (R225) that runs next, with the locals
those rules carry from step to step; IDLE when no request is in progress. U0 and U1 run when SETUP is issued and U7 is
VERIFY's V0 (log 11). -/
inductive Seq where
  | idle
  | u2
  /-- `s` is the seconds byte U2 read. -/
  | u3 (s : Byte)
  | u4
  | u5
  | u6
  | u7
  | v1
  | v2
  | v3
  /-- `rb` is the readback of V3. -/
  | v4 (rb : List Byte)
  | v5
  | v6
  | v7
  /-- `t` is the tick flag V7 read. -/
  | v8 (t : Bool)
  | u8
deriving DecidableEq, Repr

/-- The mode of a bus transaction (R113). -/
inductive BusMode where
  | read
  | write
deriving DecidableEq, Repr

/-- The current transaction's record (R162, R163) and the peripheral's auto-increment address pointer (R49). -/
structure Txn where
  mode     : BusMode
  addr     : Byte
  /-- The register the next data byte goes to or comes from. -/
  ptr      : Nat
  sent     : List Byte
  received : List Byte
deriving DecidableEq, Repr

/-- A bus event of BUSLOG: BUS(ctx, mode, addr, out_bytes, in_bytes) (R52). Both byte lists start with the command
byte's exchange (log 21). -/
structure BusEvent where
  ctx      : Ctx
  mode     : BusMode
  addr     : Byte
  sent     : List Byte
  received : List Byte
deriving DecidableEq, Repr

/-- STATUS of a response (R106). -/
inductive Status where
  | ok
  | fail
  | dataSizeError
  | generalError
deriving DecidableEq, Repr

/-- The status codes of R106. -/
def Status.code : Status → Byte
  | .ok => 0x00
  | .fail => 0x01
  | .dataSizeError => 0x02
  | .generalError => 0x03

/-- One response on the response port (R106). -/
structure Response where
  status : Status
  value  : BitVec 32
  dout   : List Byte
deriving DecidableEq, Repr

/-- What a refusal records: the reason and REQ (R262); a second instance (R8) comes with no request. -/
structure RefusalRecord where
  reason : Reason
  word   : Option ReqWord
deriving DecidableEq, Repr

/-- The peripheral's registers as a sorted list of cells: `PREG` of R81, the last byte the block sent to each. A
register with no cell has not been written since power-on, and has no value here. -/
abbrev Memory := List Host.Cell

/-- Where the bytes the peripheral sends come from. Log 4, log 5. -/
inductive Answers where
  /-- The draws to come (R80), in order; past the list's end each is a free value. -/
  | draws (coming : List Byte)
  /-- The reference oracle of R81, for simulation and test vectors only. -/
  | oracle
deriving DecidableEq, Repr

/-- The PERIPHERAL agent (R4). -/
structure Peripheral where
  answers : Answers
  /-- How many free draws have been taken (the model's own counter, log 4). -/
  drawn   : Nat
  preg    : Memory
deriving DecidableEq, Repr

/-- What happens at the next interleaving point (R264, R271), as plain data. Log 2. -/
inductive Event where
  /-- The HOST's turn. -/
  | host
  /-- The WAIT agent's turn (R4, R228): HOST takes no step. -/
  | wait
  /-- An interrupt edge arrives (R264). -/
  | edge
  /-- A second block is bound to the interrupt line (R8). -/
  | bindSecond
  /-- Power is lost and returns (R276, R300). -/
  | powerOn
deriving DecidableEq, Repr

/-- The whole state: the block's registers of R30, what they imply, and the agents' data. -/
structure State where
  /-- The parameters of R7 (R51). -/
  cfg       : Params
  /-- ACC, the millisecond accumulator (R31). -/
  acc       : BitVec 32
  /-- PERIOD_MS, the cached interrupt period (R32). -/
  periodMs  : BitVec 16
  /-- TICK, the one-shot tick flag (R33). -/
  tick      : Bool
  /-- FAULT, the self-test result (R34). -/
  fault     : Bool
  /-- INITED (R35). -/
  inited    : Bool
  /-- IRQ_WIRED (R39). -/
  irqWired  : Bool
  /-- IE, the interrupt enable (R36). -/
  ie        : Bool
  /-- IRQ_PEND, the edge latch (R37). -/
  irqPend   : Bool
  /-- CTX (R40). -/
  ctx       : Ctx
  /-- SEQ (R38). -/
  seq       : Seq
  /-- SEL, the bus chip-select (R41). -/
  sel       : Bool
  /-- REFUSED (R42) with the record of R262: REFUSED = 1 iff a record stands here. -/
  refused   : Option RefusalRecord
  /-- The request in progress and its operand values (R38). -/
  req       : Option Request
  /-- The IE values saved by the active critical sections and by service entry, innermost first (R49, R160, R266). -/
  savedIe   : List Bool
  /-- The record of the open transaction, from its command byte on (R162). -/
  txn       : Option Txn
  /-- The bytes of an open frame not yet sent (R163 step 3). Log 18. -/
  outq      : List Byte
  /-- The PERIPHERAL agent. -/
  chip      : Peripheral
  /-- BUSLOG (R52), oldest first. -/
  busLog    : List BusEvent
  /-- The responses placed on the response port (R106, R315), oldest first. -/
  responses : List Response
  /-- The HOST agent: its coming requests, in the order it issues them (R277). Log 3. -/
  host      : List Request
  /-- Which agent moves at the coming interleaving points; when it is empty the HOST moves. Log 2. -/
  agenda    : List Event
deriving DecidableEq, Repr

/-- Why the machine stops with a fault. None is a fault of the block, which has none (R260): each marks a state no
run reaches, where the spec gives the bus no meaning. Log 18. -/
inductive Fault where
  /-- Raised by a bus operation begun while SEL = 1, which R41 and R163 exclude. Safe: the model stops. -/
  | busOverlap
  /-- Raised by a bus command byte sent while SEL = 0 (R162: an exchange is legal only while SEL = 1), or in a frame
  that already has one. Safe: the model stops. -/
  | noFrame
  /-- Raised by an open frame whose first byte is no command byte of R113. Safe: the model stops. -/
  | badCommand
  /-- Raised by an open frame whose data runs past register 0x0F, which R79 gives no meaning. Safe: the model stops. -/
  | pastMap
deriving DecidableEq, Repr

/-- Why the model gives no next state. -/
inductive Refusal where
  /-- Raised by an arm of `exec` whose instruction has no meaning yet. Safe. -/
  | notModelled (mnemonic : String)
  /-- Raised by the HOST's move once REFUSED = 1: "the HOST has no further step" (R262). Safe. Log 9. -/
  | hostStuck
deriving DecidableEq, Repr

/-- Power-on reset (R48, R300): every register at the value R48 gives, BUSLOG empty. The fields the spec gives no
value are the model's choice: log 2 to log 7. -/
def State.reset : State where
  cfg       := Params.default
  acc       := 0
  periodMs  := 0
  tick      := false
  fault     := false
  inited    := false
  irqWired  := false
  ie        := true
  irqPend   := false
  ctx       := .main
  seq       := .idle
  sel       := false
  refused   := none
  req       := none
  savedIe   := []
  txn       := none
  outq      := []
  chip      := { answers := .draws [], drawn := 0, preg := [] }
  busLog    := []
  responses := []
  host      := []
  agenda    := []

end Sys2Proof.Machine
end

