-- ==== Sys2Proof/Machine/Ops.lean ====
section
/-! DEFINITION. The named operations over the state: the peripheral's registers, critical sections (R160, R161), the
bus (R162-R165), responses and refusals (R106, R262), the interrupt edge, service entry and service return (R264-R267),
and power-on (R300). -/

namespace Sys2Proof.Machine

/-! ## The peripheral's registers (R70, R81) -/

/-- The byte last written to register `a`; none where the block has written none. -/
def Memory.read : Memory → Nat → Option Byte
  | [], _ => none
  | (k, v) :: m, a => if k = a then some v else Memory.read m a

/-- Register `a` now holds `b`; the cells stay in rising order. -/
def Memory.write : Memory → Nat → Byte → Memory
  | [], a, b => [(a, b)]
  | (k, v) :: m, a, b =>
    if a < k then (a, b) :: (k, v) :: m
    else if k = a then (a, b) :: m
    else (k, v) :: Memory.write m a b

/-- The canonical form: addresses strictly rising, each one a register of the map (R70). -/
abbrev Memory.wf (m : Memory) : Prop :=
  m.Pairwise (fun c d => c.1 < d.1) ∧ ∀ c ∈ m, c.1 ≤ lastRegister

/-! ## What a bus read returns (R80, R81) -/

/-- A free draw: any byte, under no law (R80). -/
def Peripheral.free (p : Peripheral) : Byte × Peripheral :=
  (Config.draw p.drawn, { p with drawn := p.drawn + 1 })

/-- The byte the block receives in one exchange (R162). `reg` is the register a read's data byte comes from; none
for a command byte and for a write's data bytes, where even the oracle gives no law. -/
def Peripheral.receive (p : Peripheral) (reg : Option Nat) : Byte × Peripheral :=
  match p.answers, reg with
  | .draws (b :: coming), _ => (b, { p with answers := .draws coming })
  | .draws [], _ => p.free
  | .oracle, some a => ((Memory.read p.preg a).getD (Config.pregInit a), p)
  | .oracle, none => p.free

/-- A write's data byte lands in its register (R81, R83). -/
def Peripheral.store (p : Peripheral) (mode : BusMode) (a : Nat) (b : Byte) : Peripheral :=
  match mode with
  | .write => { p with preg := Memory.write p.preg a b }
  | .read => p

/-! ## Critical sections (R160, R161) -/

/-- `CS_ENTER`: remember IE, then mask. -/
def csEnter (s : State) : State :=
  { s with savedIe := s.ie :: s.savedIe, ie := false }

/-- IE takes the innermost saved value (nothing happens where none is saved: log 14). -/
def restoreIe (s : State) : State :=
  { s with ie := s.savedIe.headD s.ie, savedIe := s.savedIe.tail }

/-- `CS_EXIT`: IE takes exactly the value saved at the matching entry. -/
def csExit (s : State) : State := restoreIe s

/-! ## One transaction (R162, R163) -/

/-- The command byte of a transaction (R113): the mode's mask OR the address field. -/
def commandByte (cfg : Params) (mode : BusMode) (addr : Byte) : Byte :=
  match mode with
  | .read => busCommand cfg.readMask (addrField addr)
  | .write => busCommand cfg.writeMask (addrField addr)

/-- R163 step (1): assert select. -/
def select (s : State) : State := { s with sel := true, txn := none }

/-- R163 step (2): exchange the command byte. The transaction's record begins, and the peripheral's pointer takes the
address. -/
def xferCommand (mode : BusMode) (addr : Byte) (s : State) : State :=
  { s with
    chip := (s.chip.receive none).2
    txn := some { mode := mode, addr := addr, ptr := addr.toNat,
                  sent := [commandByte s.cfg mode addr], received := [(s.chip.receive none).1] } }

/-- The register a data exchange of this transaction is answered from: a read's pointer. -/
def answerReg (t : Txn) : Option Nat :=
  match t.mode with
  | .read => some t.ptr
  | .write => none

/-- R163 step (3), one data byte: exchange it, store it where the mode is write, and step the pointer. -/
def xferData (out : Byte) (s : State) : State :=
  match s.txn with
  | none => s
  | some t =>
    { s with
      chip := (s.chip.receive (answerReg t)).2.store t.mode t.ptr out
      txn := some { t with ptr := t.ptr + 1, sent := t.sent ++ [out],
                           received := t.received ++ [(s.chip.receive (answerReg t)).1] } }

/-- The data bytes of R163 step (3), in transfer order. -/
def xferAll : List Byte → State → State
  | [], s => s
  | b :: bs, s => xferAll bs (xferData b s)

/-- R163 step (4): deassert select and append the event to BUSLOG, with the context of the transaction. -/
def deselect (s : State) : State :=
  match s.txn with
  | none => { s with sel := false }
  | some t =>
    { s with
      sel := false
      txn := none
      busLog := s.busLog ++ [{ ctx := s.ctx, mode := t.mode, addr := t.addr, sent := t.sent, received := t.received }] }

/-- Steps (1) to (3) of R163. -/
def openFrame (mode : BusMode) (addr : Byte) (outs : List Byte) (s : State) : State :=
  xferAll outs (xferCommand mode addr (select s))

/-- The bytes received so far in the open transaction, the command byte's first. -/
def receivedBytes (s : State) : List Byte :=
  match s.txn with
  | none => []
  | some t => t.received

/-- `BusRead(addr, n)` (R164): the n data bytes received, and the state after. -/
def busRead (addr : Byte) (n : Nat) (s : State) : List Byte × State :=
  let framed := openFrame .read addr (List.replicate n 0x00) (csEnter s)
  ((receivedBytes framed).drop 1, csExit (deselect framed))

/-- `BusWrite(addr, bytes)` (R165). -/
def busWrite (addr : Byte) (bytes : List Byte) (s : State) : State :=
  csExit (deselect (openFrame .write addr bytes (csEnter s)))

/-! ## Ending a request (R106, R253, R262) -/

/-- The request ends: SEQ returns to IDLE (R38). -/
def endRequest (s : State) : State := { s with seq := .idle, req := none }

/-- `respond(status, value)` with DOUT (R106), and the request ends. -/
def respond (status : Status) (value : BitVec 32) (dout : List Byte) (s : State) : State :=
  endRequest { s with responses := s.responses ++ [{ status := status, value := value, dout := dout }] }

/-- `raise Refuse(reason)` (R262): REFUSED is set and (reason, REQ) recorded; the request has no other effect. -/
def refuse (reason : Reason) (s : State) : State :=
  { s with refused := some { reason := reason, word := s.req.map (·.word) }, req := none }

/-! ## The interrupt (R264-R267), the outside world -/

/-- An interrupt edge (R264): latched where the line is wired, ignored where it is not. -/
def edgeArrives (s : State) : State := { s with irqPend := s.irqPend || s.irqWired }

/-- Service entry, the block's only trap entry (R266). `isr_saved` is the innermost entry of `savedIe` (log 14). -/
def serviceEntry (s : State) : State :=
  { s with irqPend := false, savedIe := s.ie :: s.savedIe, ie := false, ctx := .isr }

/-- Service return (R267). -/
def serviceReturn (s : State) : State := { restoreIe s with ctx := .main }

/-- A second block is bound to this block's line: refused (R8), with no request to record. DESIGN CHOICE twice, since
the spec is silent on both (log 15): the binding is refused whatever HAS_IRQ and IRQ_WIRED are; and where REFUSED is 1
already, the record of this refusal replaces the earlier one. -/
def bindSecond (s : State) : State :=
  { s with refused := some { reason := .secondInstance, word := none } }

/-- Power-on (R300): the block as `State.reset` has it; the configuration, the peripheral's battery-backed registers
(R276) and what belongs to the outside world stay. Log 16. -/
def powerOn (s : State) : State :=
  { State.reset with cfg := s.cfg, chip := s.chip, responses := s.responses, host := s.host, agenda := s.agenda }

end Sys2Proof.Machine
end

