-- ==== Sys2Proof/Machine/Flags.lean ====
section
/-! DEFINITION. Every value computed from the flags of R43: the driver state, fault gating, the service condition,
the OS flag and the value of STATUS. -/

namespace Sys2Proof.Machine

/-- The driver states of R220. -/
inductive DriverState where
  | uninitialized
  | faulted
  | operational
deriving DecidableEq, Repr

/-- DSTATE (R35). -/
def driverState (s : State) : DriverState :=
  if s.inited then (if s.fault then .faulted else .operational) else .uninitialized

/-- The entry condition of the service (R266) at an interleaving point; inside an open frame there is none
(R170). -/
def serviceable (s : State) : Bool :=
  decide (s.ctx = .main) && s.ie && s.irqPend && !s.sel

/-- The fault gate of SETPER with k /= 0 and of GETPER (R234). -/
def faultGated (s : State) : Bool := s.fault

/-- The fault gate of STOP and of SETPER 0 (R193, R234). -/
def stopGated (s : State) : Bool := s.cfg.stopGuarded && s.fault

/-- The OS flag, bit 7 of the seconds byte (R74, R222). -/
def osFlag (seconds : Byte) : Bool := seconds.getLsbD 7

/-- A 1-bit value on the response port (R195: 1 is true, 0 false). -/
def boolValue (b : Bool) : BitVec 32 := if b then 1 else 0

/-- VALUE of STATUS: bit 0 is FAULT, bit 1 is INITED (R233). -/
def statusValue (s : State) : BitVec 32 :=
  (BitVec.ofBool s.inited ++ BitVec.ofBool s.fault).setWidth 32

/-- TIMER_CFG_RUN (R115). -/
def timerCfgRun (cfg : Params) : Byte := cfg.cofDisabled ||| cfg.teBit ||| cfg.srcCodes.hz64.setWidth 8

/-- TIMER_CFG_STOP (R115). -/
def timerCfgStop (cfg : Params) : Byte := cfg.cofDisabled ||| cfg.srcCodes.hz64.setWidth 8

end Sys2Proof.Machine
end

