-- ==== Sys2Proof/Machine/Operands.lean ====
section
/-! DEFINITION. The operands of a request and the checks made of them before its first effect, in the order of R111
step (4) and R270: DIN length, counts, addresses, then NOT_INITIALIZED. -/

namespace Sys2Proof.Machine

/-- The DIN bytes of the request in progress. -/
def dinOf (s : State) : List Byte :=
  match s.req with
  | none => []
  | some r => r.din

/-- R107, R111 step (4): the DIN length is the operation's. -/
def dinDefect (i : Instr) (s : State) : Option Reason :=
  if (dinOf s).length = dinLength i then none else some .badLength

/-- R79: a register address. -/
def addrDefect (addr : Byte) : Option Reason :=
  if addr.toNat ≤ lastRegister then none else some .badAddress

/-- R168, R169: a burst's count, then its last address. -/
def burstDefect (first count : Byte) : Option Reason :=
  if count.toNat = 0 then some .badCount
  else if first.toNat + count.toNat - 1 ≤ lastRegister then none
  else some .badAddress

/-- `host_bus_ok`: INITED = 1 (R221). -/
def initDefect (s : State) : Option Reason :=
  if s.inited then none else some .notInitialized

/-- The first defect of a list of checks (R270). -/
def firstDefect : List (Option Reason) → Option Reason
  | [] => none
  | some r :: _ => some r
  | none :: rest => firstDefect rest

/-- Refuse by the first defect, or run the operation. -/
def attempt (defects : List (Option Reason)) (run : State → State) (s : State) :
    Host.Outcome State Fault Refusal :=
  match firstDefect defects with
  | some r => .next (refuse r s)
  | none => .next (run s)

/-- As `attempt`, for an operation that may use the bus: a transaction begins only with SEL = 0 (R41, R163). -/
def attemptBus (defects : List (Option Reason)) (run : State → State) (s : State) :
    Host.Outcome State Fault Refusal :=
  match firstDefect defects with
  | some r => .next (refuse r s)
  | none => if s.sel then .fault .busOverlap else .next (run s)

end Sys2Proof.Machine
end

