-- ==== Sys2Proof/Machine/Codec.lean ====
section
/-! DEFINITION. TimeCodec (spec/41_time_codec.md): pure functions on bytes, records and timestamps, and the five
codec operations. -/

namespace Sys2Proof.Machine

/-- The record of seven bytes in wire order (R45, R118). Callers give seven bytes. -/
def recordOf (bytes : List Byte) : TimeRecord :=
  { seconds := bytes.getD 0 0, minutes := bytes.getD 1 0, hours := bytes.getD 2 0, day := bytes.getD 3 0,
    weekday := bytes.getD 4 0, month := bytes.getD 5 0, year := bytes.getD 6 0 }

/-- The seven bytes of a record in wire order (R45, R118). -/
def recordBytes (r : TimeRecord) : List Byte :=
  [r.seconds, r.minutes, r.hours, r.day, r.weekday, r.month, r.year]

/-- bcdToDecimal (R140): no nibble is checked. -/
def bcdToDec (b : Byte) : Nat := 10 * (b.toNat / 16) + b.toNat % 16

/-- decimalToBcd (R141), truncated to 8 bits. -/
def decToBcd (d : Nat) : Byte := BitVec.ofNat 8 (16 * (d / 10) + d % 10)

/-- encode (R142): timestamp to record, with the weekday sentinel. -/
def encodeTime (weekday : Byte) (t : BitVec 32) : TimeRecord :=
  let t1 := t.toNat / 60
  let t2 := t1 / 60
  let t3 := t2 / 24
  let t4 := t3 / 31
  { seconds := decToBcd (t.toNat % 60)
    minutes := decToBcd (t1 % 60)
    hours := decToBcd (t2 % 24)
    day := decToBcd (t3 % 31 + 1)
    weekday := weekday
    month := decToBcd (t4 % 12 + 1)
    year := decToBcd (t4 / 12) }

/-- The exact sum of R143, before reduction; the day and month terms may be negative. -/
def decodeSum (masks r : TimeRecord) : Int :=
  (bcdToDec (r.seconds &&& masks.seconds) : Int)
  + (bcdToDec (r.minutes &&& masks.minutes) : Int) * 60
  + (bcdToDec (r.hours &&& masks.hours) : Int) * 3600
  + ((bcdToDec (r.day &&& masks.day) : Int) - 1) * 86400
  + ((bcdToDec (r.month &&& masks.month) : Int) - 1) * 2678400
  + (bcdToDec (r.year &&& masks.year) : Int) * 32140800

/-- decode (R143): record to timestamp, modulo 2^32. The weekday is not read. -/
def decodeTime (masks r : TimeRecord) : BitVec 32 := BitVec.ofInt 32 (decodeSum masks r)

/-- The ASCII digit of `d` (0-9). -/
def asciiDigit (d : Nat) : Byte := BitVec.ofNat 8 (0x30 + d)

/-- `dd(x)` of R148: decimal digits of a value below 1000, left-padded to two. -/
def twoDigits (n : Nat) : List Byte :=
  (if n < 100 then [] else [asciiDigit (n / 100)]) ++ [asciiDigit (n / 10 % 10), asciiDigit (n % 10)]

/-- The text of a record, "DD-MM-20YY HH:MM:SS" in ASCII (R148). -/
def formatRecord (r : TimeRecord) : List Byte :=
  twoDigits (bcdToDec r.day) ++ [0x2D] ++ twoDigits (bcdToDec r.month) ++ [0x2D, 0x32, 0x30]
  ++ twoDigits (bcdToDec r.year) ++ [0x20] ++ twoDigits (bcdToDec r.hours) ++ [0x3A]
  ++ twoDigits (bcdToDec r.minutes) ++ [0x3A] ++ twoDigits (bcdToDec r.seconds)

/-- BCD2DEC (R140). -/
def execBcd2dec (b : Byte) (s : State) : Host.Outcome State Fault Refusal :=
  attempt [dinDefect (.bcd2dec b) s] (respond .ok (BitVec.ofNat 32 (bcdToDec b)) []) s

/-- DEC2BCD (R141). -/
def execDec2bcd (d : Byte) (s : State) : Host.Outcome State Fault Refusal :=
  attempt [dinDefect (.dec2bcd d) s] (respond .ok ((decToBcd d.toNat).setWidth 32) []) s

/-- ENCODE (R142). -/
def execEncode (t : BitVec 32) (s : State) : Host.Outcome State Fault Refusal :=
  attempt [dinDefect (.encode t) s] (respond .ok 0 (recordBytes (encodeTime s.cfg.weekday t))) s

/-- DECODE (R143). -/
def execDecode (s : State) : Host.Outcome State Fault Refusal :=
  attempt [dinDefect .decode s] (respond .ok (decodeTime s.cfg.decodeMasks (recordOf (dinOf s))) []) s

/-- FORMAT (R148). -/
def execFormat (s : State) : Host.Outcome State Fault Refusal :=
  attempt [dinDefect .format s] (respond .ok 0 (formatRecord (recordOf (dinOf s)))) s

end Sys2Proof.Machine
end

