-- ==== Sys2Proof/Machine/RegisterBus.lean ====
section
/-! DEFINITION. RegisterBus (spec/42_register_bus.md): the four bus operations of the HOST, and the two bus command
bytes of R113. -/

namespace Sys2Proof.Machine

/-- Read `n` registers from `addr` on and respond with what `value` and `dout` make of the bytes. -/
def readAndRespond (addr : Byte) (n : Nat) (value : List Byte → BitVec 32) (dout : List Byte → List Byte)
    (s : State) : State :=
  let got := busRead addr n s
  respond .ok (value got.1) (dout got.1) got.2

/-- RDREG (R166): VALUE is the byte read. -/
def execRdreg (addr : Byte) (s : State) : Host.Outcome State Fault Refusal :=
  attemptBus [dinDefect (.rdreg addr) s, addrDefect addr, initDefect s]
    (readAndRespond addr 1 (fun bytes => (bytes.getD 0 0).setWidth 32) (fun _ => [])) s

/-- WRREG (R167). -/
def execWrreg (addr v : Byte) (s : State) : Host.Outcome State Fault Refusal :=
  attemptBus [dinDefect (.wrreg addr v) s, addrDefect addr, initDefect s]
    (fun s => respond .ok 0 [] (busWrite addr [v] s)) s

/-- BRD (R168): DOUT is the bytes read. -/
def execBrd (first count : Byte) (s : State) : Host.Outcome State Fault Refusal :=
  attemptBus [dinDefect (.brd first count) s, burstDefect first count, initDefect s]
    (readAndRespond first count.toNat (fun _ => 0) (fun bytes => bytes)) s

/-- BWR (R169). -/
def execBwr (first count : Byte) (s : State) : Host.Outcome State Fault Refusal :=
  attemptBus [dinDefect (.bwr first count) s, burstDefect first count, initDefect s]
    (fun s => respond .ok 0 [] (busWrite first (dinOf s) s)) s

/-- A command byte is exchanged only in an open frame (R162), as its first byte (R163). -/
def sendCommand (mode : BusMode) (addr : BitVec 4) (s : State) : Host.Outcome State Fault Refusal :=
  if s.sel && s.txn.isNone then .next (xferCommand mode (addr.setWidth 8) s) else .fault .noFrame

/-- Bus command byte of write mode (R113): R163 step (2) of a writing transaction. Log 19. -/
def execBusWrite (addr : BitVec 4) (s : State) : Host.Outcome State Fault Refusal := sendCommand .write addr s

/-- Bus command byte of read mode (R113): R163 step (2) of a reading transaction. Log 19. -/
def execBusRead (addr : BitVec 4) (s : State) : Host.Outcome State Fault Refusal := sendCommand .read addr s

end Sys2Proof.Machine
end

