-- ==== Sys2Proof/Machine/Driver.lean ====
section
/-! DEFINITION. Time access and the Fault State read of RtcDriver (spec/44_driver_sequencer.md, R230-R233). -/

namespace Sys2Proof.Machine

/-- GETTIME (R230): the seven bytes as the bus returned them. -/
def execGettime (s : State) : Host.Outcome State Fault Refusal :=
  attemptBus [dinDefect .gettime s, initDefect s]
    (readAndRespond 0x02 timeRecordSize (fun _ => 0) (fun bytes => bytes)) s

/-- GETTS (R231): the seven bytes, decoded. -/
def execGetts (s : State) : Host.Outcome State Fault Refusal :=
  attemptBus [dinDefect .getts s, initDefect s]
    (readAndRespond 0x02 timeRecordSize (fun bytes => decodeTime s.cfg.decodeMasks (recordOf bytes)) (fun _ => [])) s

/-- SetTime: burst write of a record from the seconds register on (R232, R251). -/
def setTime (s : State) : State := respond .ok 0 [] (busWrite 0x02 (dinOf s) s)

/-- SETTIME (R232): the record is not validated. -/
def execSettime (s : State) : Host.Outcome State Fault Refusal :=
  attemptBus [dinDefect .settime s, initDefect s] setTime s

/-- STATUS (R233). -/
def execStatus (s : State) : Host.Outcome State Fault Refusal :=
  attempt [dinDefect .status s] (respond .ok (statusValue s) []) s

end Sys2Proof.Machine
end

