-- ==== Sys2Proof/Machine/Command.lean ====
section
/-! DEFINITION. The command boundary (spec/45_command_boundary.md, R250-R253). -/

namespace Sys2Proof.Machine

/-- Kind 0, set time (R251). -/
def cmdSetTime (len : Byte) (s : State) : State :=
  if len.toNat = timeRecordSize then setTime s else respond .dataSizeError 0 [] s

/-- Kind 1, print current time (R252): a payload is ignored; the text is in DOUT (log 22). -/
def cmdPrintTime (s : State) : State :=
  if s.cfg.hasSink then
    readAndRespond 0x02 timeRecordSize (fun _ => 0) (fun bytes => formatRecord (recordOf bytes)) s
  else respond .generalError 0 [] s

/-- CMD (R250): an unrecognized kind ends with no response and no effect (R253). -/
def execCmd (kind len : Byte) (s : State) : Host.Outcome State Fault Refusal :=
  attemptBus [dinDefect (.cmd kind len) s, initDefect s]
    (if kind = 0 then cmdSetTime len else if kind = 1 then cmdPrintTime else endRequest) s

end Sys2Proof.Machine
end

