-- ==== Sys2Proof/Machine/TickCounter.lean ====
section
/-! DEFINITION. TickCounter (spec/43_tick_counter.md): the period, the tick flag, the accumulator and the interrupt
service. -/

namespace Sys2Proof.Machine

/-- `ticks * 1000 / 64`, computed exactly (R191). -/
def periodMsExact (k : Byte) : BitVec 16 := BitVec.ofNat 16 (k.toNat * 1000 / srcHz)

/-- PERIOD_MS_FN (R191). -/
def periodMsOf (f : PeriodFn) (k : Byte) : BitVec 16 :=
  match f with
  | .exact => periodMsExact k
  | .table values => values.getD k.toNat (periodMsExact k)

/-- CONFIGURE_BODY(k) (R192), one atomic micro-step. -/
def configureBody (k : Byte) (s : State) : State :=
  let entered := csEnter s
  let stopped := busWrite 0x0E [timerCfgStop s.cfg] entered
  let loaded := busWrite 0x0F [k] stopped
  let cached := { loaded with periodMs := periodMsOf s.cfg.periodFn k }
  csExit (busWrite 0x0E [timerCfgRun s.cfg] cached)

/-- STOP_BODY (R193), one atomic micro-step. -/
def stopBody (s : State) : State :=
  csExit { busWrite 0x0E [timerCfgStop s.cfg] (csEnter s) with periodMs := 0 }

/-- TICK <- 0 under a critical section: CONSUME's effect (R195) and Verify's V1 and V7 (R225). -/
def clearTick (s : State) : State := csExit { csEnter s with tick := false }

/-- The OFF path, shared by STOP and SETPER 0 (R192, R193). -/
def stopOrFail (s : State) : State :=
  if stopGated s then respond .fail 0 [] s else respond .ok 0 [] (stopBody s)

/-- The running path of SETPER (R192). -/
def configureOrFail (k : Byte) (s : State) : State :=
  if faultGated s then respond .fail 0 [] s else respond .ok 0 [] (configureBody k s)

/-- SETPER (R192). -/
def execSetper (k : Byte) (s : State) : Host.Outcome State Fault Refusal :=
  attemptBus [dinDefect (.setper k) s, initDefect s] (if k = 0 then stopOrFail else configureOrFail k) s

/-- STOP (R193). -/
def execStop (s : State) : Host.Outcome State Fault Refusal :=
  attemptBus [dinDefect .stop s, initDefect s] stopOrFail s

/-- GETPER (R194): the cached period, read under a critical section; FAIL while FAULT = 1. -/
def execGetper (s : State) : Host.Outcome State Fault Refusal :=
  attempt [dinDefect .getper s]
    (fun s =>
      if faultGated s then respond .fail 0 [] s
      else respond .ok ((csEnter s).periodMs.setWidth 32) [] (csExit (csEnter s))) s

/-- CONSUME (R195): TICK is read and cleared in one critical section. -/
def execConsume (s : State) : Host.Outcome State Fault Refusal :=
  attempt [dinDefect .consume s] (fun s => respond .ok (boolValue (csEnter s).tick) [] (clearTick s)) s

/-- GETMS (R196): ACC, read under a critical section. -/
def execGetms (s : State) : Host.Outcome State Fault Refusal :=
  attempt [dinDefect .getms s] (fun s => respond .ok (csEnter s).acc [] (csExit (csEnter s))) s

/-- The body of the service, its three actions in order (R197). -/
def irqBody (s : State) : State :=
  let counted := { s with acc := s.acc + s.periodMs.setWidth 32 }
  { busWrite 0x01 [s.cfg.ctrl2Tie] counted with tick := true }

/-- Entry, body and return of the service: one atomic step of the IRQ agent (R266, R197, R267). -/
def runService (s : State) : State := serviceReturn (irqBody (serviceEntry s))

/-- IRQSVC (R197): the service where its entry condition holds; issued anywhere else it is an internal code and is
refused (R110). Log 20. -/
def execIrqsvc (s : State) : Host.Outcome State Fault Refusal :=
  if serviceable s then .next (runService s) else .next (refuse .internalOp s)

end Sys2Proof.Machine
end

