-- ==== Sys2Proof/Machine/Sequencer.lean ====
section
/-! DEFINITION. The SETUP and VERIFY sequencer (spec/44_driver_sequencer.md, R222-R228): one definition per
micro-step, each atomic, each naming the step that follows. Log 11. -/

namespace Sys2Proof.Machine

/-- The expected readback of Verify (R225). -/
def verifyExpected (cfg : Params) : List Byte :=
  match cfg.verifyReadback with
  | .cfgAndCount => [timerCfgRun cfg, 0x01]
  | .cfgOnly => [timerCfgRun cfg]

/-- How many bytes V3 reads back (R225). -/
def verifyCount (cfg : Params) : Nat :=
  match cfg.verifyReadback with
  | .cfgAndCount => 2
  | .cfgOnly => 1

/-- U0 and U1: the bus is initialised, which has no architectural effect (R6), and FAULT <- 0. -/
def stepU1 (s : State) : State := { s with fault := false, seq := .u2 }

/-- U2: read the seconds register. -/
def stepU2 (s : State) : State :=
  let got := busRead 0x02 1 s
  { got.2 with seq := .u3 (got.1.getD 0 0) }

/-- U3: where the OS flag is set, the peripheral reset command; where it is not, U3 and U4 do nothing. -/
def stepU3 (seconds : Byte) (s : State) : State :=
  if osFlag seconds then
    { busWrite (s.cfg.resetReg.setWidth 8) [s.cfg.resetValue] s with seq := .u4 }
  else { s with seq := .u5 }

/-- U4: write the record of timestamp 0. -/
def stepU4 (s : State) : State :=
  { busWrite 0x02 (recordBytes (encodeTime s.cfg.weekday 0)) s with seq := .u5 }

/-- U5: wire the interrupt source where one is configured. -/
def stepU5 (s : State) : State :=
  if s.cfg.hasIrq then { s with irqWired := true, seq := .u6 } else { s with seq := .u7 }

/-- U6: route the timer interrupt. -/
def stepU6 (s : State) : State :=
  { busWrite 0x01 [s.cfg.ctrl2Tie] s with seq := .u7 }

/-- V0, which is U7: with no interrupt source the self-test is skipped (R226). -/
def stepV0 (s : State) : State := { s with seq := if s.cfg.hasIrq then .v1 else .u8 }

/-- V1: clear any stale tick. -/
def stepV1 (s : State) : State := { clearTick s with seq := .v2 }

/-- V2: configure a 1-tick period. -/
def stepV2 (s : State) : State := { configureBody 1 s with seq := .v3 }

/-- V3: read the configuration back. -/
def stepV3 (s : State) : State :=
  let got := busRead 0x0E (verifyCount s.cfg) s
  { got.2 with seq := .v4 got.1 }

/-- V4: on a mismatch FAULT <- 1 and Verify returns. -/
def stepV4 (readback : List Byte) (s : State) : State :=
  if readback = verifyExpected s.cfg then { s with seq := .v5 } else { s with fault := true, seq := .u8 }

/-- V5: the wait ends (R228). -/
def stepV5 (s : State) : State := { s with seq := .v6 }

/-- V6: stop the timer. -/
def stepV6 (s : State) : State := { stopBody s with seq := .v7 }

/-- V7: read and clear TICK. -/
def stepV7 (s : State) : State := { clearTick s with seq := .v8 s.tick }

/-- V8: no tick was seen: FAULT <- 1. -/
def stepV8 (t : Bool) (s : State) : State := { s with fault := if t then s.fault else true, seq := .u8 }

/-- U8: INITED <- 1 and SETUP responds OK. -/
def stepU8 (s : State) : State := respond .ok 0 [] { s with inited := true }

/-- SETUP (R222): issued in any driver state; its first micro-step is U1, and the HOST's next moves run U2 to U8. -/
def execSetup (s : State) : Host.Outcome State Fault Refusal := attempt [dinDefect .setup s] stepU1 s

/-- VERIFY (R225): begun only as step U7 of SETUP; anywhere else it is an internal code and is refused (R110).
Log 20. -/
def execVerify (s : State) : Host.Outcome State Fault Refusal :=
  if s.seq = .u7 then .next (stepV0 s) else .next (refuse .internalOp s)

end Sys2Proof.Machine
end

