-- ==== Sys2Proof/Machine/Dispatch.lean ====
section
/-! DEFINITION. One arm per operation: each a direct call of its meaning. -/

namespace Sys2Proof.Machine

def exec (i : Instr) (s : State) : Host.Outcome State Fault Refusal :=
  match i with
  | .bcd2dec b => Sys2Proof.Machine.execBcd2dec b s
  | .dec2bcd d => Sys2Proof.Machine.execDec2bcd d s
  | .encode t => Sys2Proof.Machine.execEncode t s
  | .decode => Sys2Proof.Machine.execDecode s
  | .format => Sys2Proof.Machine.execFormat s
  | .rdreg addr => Sys2Proof.Machine.execRdreg addr s
  | .wrreg addr v => Sys2Proof.Machine.execWrreg addr v s
  | .brd first count => Sys2Proof.Machine.execBrd first count s
  | .bwr first count => Sys2Proof.Machine.execBwr first count s
  | .setper k => Sys2Proof.Machine.execSetper k s
  | .stop => Sys2Proof.Machine.execStop s
  | .getper => Sys2Proof.Machine.execGetper s
  | .consume => Sys2Proof.Machine.execConsume s
  | .getms => Sys2Proof.Machine.execGetms s
  | .setup => Sys2Proof.Machine.execSetup s
  | .gettime => Sys2Proof.Machine.execGettime s
  | .getts => Sys2Proof.Machine.execGetts s
  | .settime => Sys2Proof.Machine.execSettime s
  | .status => Sys2Proof.Machine.execStatus s
  | .verify => Sys2Proof.Machine.execVerify s
  | .cmd kind len => Sys2Proof.Machine.execCmd kind len s
  | .irqsvc => Sys2Proof.Machine.execIrqsvc s
  | .busWrite addr => Sys2Proof.Machine.execBusWrite addr s
  | .busRead addr => Sys2Proof.Machine.execBusRead addr s

end Sys2Proof.Machine
end

