-- ==== Sys2Proof/Machine/Agents.lean ====
section
/-! DEFINITION. Which agent moves, and its move: the frame on the bus, the environment's events, the interrupt service,
the WAIT agent and the HOST (R4, R264, R268, R271). -/

namespace Sys2Proof.Machine

/-- The HOST issues a request: it becomes the request in progress, is decoded (R111), and runs or is refused. -/
def issue (r : Request) (s : State) : Host.Outcome State Fault Refusal :=
  match decodeRequest r.word with
  | .error reason => .next (refuse reason { s with req := some r })
  | .ok i => exec i { s with req := some r }

/-- The HOST's move (R38, R271): one micro-step of the request in progress, or the next request. With no request to
issue the block waits for one (log 3); once REFUSED = 1 there is no further move (R262, log 9). -/
def hostMove (s : State) : Host.Outcome State Fault Refusal :=
  if s.refused.isSome then .refused .hostStuck
  else
    match s.seq with
    | .idle =>
      match s.host with
      | [] => .next s
      | r :: rest => issue r { s with host := rest }
    | .u2 => .next (stepU2 s)
    | .u3 seconds => .next (stepU3 seconds s)
    | .u4 => .next (stepU4 s)
    | .u5 => .next (stepU5 s)
    | .u6 => .next (stepU6 s)
    | .u7 => exec .verify s
    | .v1 => .next (stepV1 s)
    | .v2 => .next (stepV2 s)
    | .v3 => .next (stepV3 s)
    | .v4 readback => .next (stepV4 readback s)
    | .v5 => .next (stepV5 s)
    | .v6 => .next (stepV6 s)
    | .v7 => .next (stepV7 s)
    | .v8 t => .next (stepV8 t s)
    | .u8 => .next (stepU8 s)

/-- The HOST's turn. A state with CTX = ISR stands after a service body, and the service returns (log 17). -/
def hostTurn (s : State) : Host.Outcome State Fault Refusal :=
  match s.ctx with
  | .isr => .next (serviceReturn s)
  | .main => hostMove s

/-- The move inside an open frame (SEL = 1), which nothing interrupts (R163, R170): the command byte, then the data
bytes, then deselect. No run reaches it between steps, since a transaction is one micro-step. DESIGN CHOICE: a frame with
nothing left to send is deselected also where it has had no data byte, which logs an event with no data, or not even a
command byte, which logs none; the spec gives such a transaction no meaning (D5, R164, R165). Log 18. -/
def frameMove (s : State) : Host.Outcome State Fault Refusal :=
  match s.txn, s.outq with
  | none, b :: rest =>
    match decodeBus s.cfg.writeMask s.cfg.readMask b with
    | some i => exec i { s with outq := rest }
    | none => .fault .badCommand
  | some t, b :: rest => if t.ptr ≤ lastRegister then .next (xferData b { s with outq := rest }) else .fault .pastMap
  | _, [] => .next (deselect s)

/-- The agenda's next entry: the HOST's turn where nothing is listed. -/
def nextEvent (s : State) : Event :=
  match s.agenda with
  | [] => .host
  | e :: _ => e

/-- The agenda's next entry is used up. -/
def dropEvent (s : State) : State := { s with agenda := s.agenda.tail }

/-- One step of the machine. Inside a frame the frame goes on. Otherwise the agenda's next entry moves: an event of
the outside world happens; or it is the turn of WAIT or HOST, and then a serviceable edge is serviced first
(R268) and the turn kept. Log 2, log 12. -/
def nextMove (s : State) : Host.Outcome State Fault Refusal :=
  if s.sel then frameMove s
  else
    match nextEvent s with
    | .edge => .next (edgeArrives (dropEvent s))
    | .bindSecond => .next (bindSecond (dropEvent s))
    | .powerOn => .next (powerOn (dropEvent s))
    | .wait => if serviceable s then exec .irqsvc s else .next (dropEvent s)
    | .host => if serviceable s then exec .irqsvc s else hostTurn (dropEvent s)

/-- A request word is at the head of the HOST's queue with as many zero DIN bytes as it takes, and the HOST moves
next. -/
def placeRequest (w : ReqWord) (s : State) : State :=
  let din := match decodeRequest w with
    | .ok i => List.replicate (dinLength i) 0x00
    | .error _ => []
  { s with sel := false, ctx := .main, seq := .idle, refused := none, irqPend := false,
           host := { word := w, din := din } :: s.host, agenda := .host :: s.agenda }

/-- VERIFY is next: SETUP stands at U7 and the HOST moves next (R110, R222). -/
def placeVerify (s : State) : State :=
  { s with sel := false, ctx := .main, seq := .u7, refused := none, irqPend := false, agenda := .host :: s.agenda }

/-- IRQSVC is next: an edge is pending and serviceable (R266). -/
def placeService (s : State) : State :=
  { s with sel := false, ctx := .main, ie := true, irqPend := true, agenda := .host :: s.agenda }

/-- A bus command byte is next: a frame is open and this is its first byte (R163). -/
def placeCommand (b : Byte) (s : State) : State :=
  { s with sel := true, txn := none, outq := b :: s.outq }

/-- Store a raw code where the next step takes it from. -/
def placeCode (c : Code) (s : State) : State :=
  match c with
  | .bus b => placeCommand b s
  | .req w =>
    match decodeWord w with
    | .ok .verify => placeVerify s
    | .ok .irqsvc => placeService s
    | _ => placeRequest w s

end Sys2Proof.Machine
end

