-- ==== Sys2Proof/Machine/Step.lean ====
section
/-! DEFINITION. The step of the machine, and placing an instruction where the next step takes it from (log 1). -/

namespace Sys2Proof.Machine

/-- One step: the move of the agent whose turn it is. -/
def step (s : State) : Host.Outcome State Fault Refusal := nextMove s

/-- The state whose very next step runs the instruction of the table word `w` of `nbits` bits: a request word on the
HOST's queue, an internal code in the place the block takes it from, or a bus command byte in an open frame. -/
def State.withFetchWord (s : State) (nbits w : Nat) : State := placeCode (tableCode nbits w) s

end Sys2Proof.Machine
end

