-- ==== Sys2Proof/Safety.lean ====
section
/-! DEFINITION. What counts as a good run and a good state: rest, a good end and stuckness (R315), the shape of a state
between atomic steps, and the environment's premise of Verify (R82). -/

namespace Sys2Proof.Safety

open Sys2Proof.Machine

/-- REFUSED = 1 (R42). -/
abbrev Refused (s : State) : Prop := s.refused.isSome = true

/-- At rest (R315): SEQ = IDLE, CTX = MAIN and no serviceable edge pending. -/
abbrev AtRest (s : State) : Prop :=
  s.seq = .idle ∧ s.ctx = .main ∧ ¬(s.irqPend = true ∧ s.ie = true)

/-- A run ends well at rest with REFUSED = 0 (R315). -/
abbrev EndsWell (s : State) : Prop := AtRest s ∧ ¬ Refused s

/-- Between two atomic steps: no frame, no critical section, main context, interrupt enabled (R163, R161, R267). -/
abbrev Settled (s : State) : Prop :=
  s.sel = false ∧ s.txn = none ∧ s.outq = [] ∧ s.savedIe = [] ∧ s.ctx = .main ∧ s.ie = true

/-- SEQ stands inside VERIFY, after V0 (R225). -/
def inVerify : Seq → Bool
  | .v1 => true
  | .v2 => true
  | .v3 => true
  | .v4 _ => true
  | .v5 => true
  | .v6 => true
  | .v7 => true
  | .v8 _ => true
  | .idle => false
  | .u2 => false
  | .u3 _ => false
  | .u4 => false
  | .u5 => false
  | .u6 => false
  | .u7 => false
  | .u8 => false

/-- SEQ stands where FAULT is still the 0 that U1 wrote: after U1 and before the step after V4 or V8 (R222, R225). -/
def faultUndecided (q : Seq) : Bool :=
  match q with
  | .idle => false
  | .u8 => false
  | _ => true

/-- SEQ stands after U5, in the part of SETUP that runs with the line wired where a source is configured (R222). -/
def afterWiring (q : Seq) : Bool :=
  match q with
  | .u6 => true
  | .u7 => true
  | .u8 => true
  | q => inVerify q

/-- The interrupt flags agree with the configuration: an edge is latched only on a wired line (R264); a line is wired
only where an interrupt source is configured, and then it is from U5 on (R39, R222); VERIFY's steps after V0 run only
where a source is configured (R225, R226). -/
abbrev WiringOk (s : State) : Prop :=
  (s.irqPend = true → s.irqWired = true) ∧
  (s.irqWired = true → s.cfg.hasIrq = true) ∧
  (inVerify s.seq = true → s.cfg.hasIrq = true) ∧
  (afterWiring s.seq = true ∨ s.inited = true → s.cfg.hasIrq = true → s.irqWired = true)

/-- FAULT is decided once per SETUP: clear while undecided (R225), and clear in the Uninitialized driver state at rest
(R220, R233). -/
abbrev FaultOk (s : State) : Prop :=
  (faultUndecided s.seq = true → s.fault = false) ∧
  (s.seq = .idle → s.inited = false → s.fault = false)

/-- A request in progress is held exactly while SEQ is not IDLE (R38). -/
abbrev RequestOk (s : State) : Prop := s.req = none ↔ s.seq = .idle

/-- What holds in every reachable state, from the rules named at its parts. -/
structure Inv (s : State) : Prop where
  settled : Settled s
  wiring  : WiringOk s
  fault   : FaultOk s
  request : RequestOk s
  memory  : Memory.wf s.chip.preg

/-! ## The vocabulary of the statements -/

/-- `k` steps, stopping at the first fault or refusal. -/
def steps : Nat → State → Host.Outcome State Fault Refusal
  | 0, s => .next s
  | k + 1, s =>
    match step s with
    | .next t => steps k t
    | .fault r => .fault r
    | .refused r => .refused r

/-- `s` after its request ended (R38): nothing else changed. -/
def ended (s : State) : State := { s with seq := .idle, req := none }

/-- `s` after its request ended with one response (R106): nothing else changed. -/
def answered (s : State) (status : Status) (value : BitVec 32) (dout : List Byte) : State :=
  { s with responses := s.responses ++ [⟨status, value, dout⟩], seq := .idle, req := none }

/-- `s` after its request was refused (R262): nothing else changed. -/
def rejected (s : State) (reason : Reason) : State :=
  { s with refused := some ⟨reason, s.req.map (·.word)⟩, req := none }

/-- `s` after bus transactions: the peripheral is `chip`, BUSLOG has grown by `events`, the frame is closed, and
nothing else changed. -/
def withFrames (s : State) (chip : Peripheral) (events : List BusEvent) : State :=
  { s with sel := false, txn := none, chip := chip, busLog := s.busLog ++ events }

/-- The event of a writing transaction of `s` (R163, R165): the command byte and the data bytes went out, `got` came
in. -/
def writeEvent (s : State) (ctx : Ctx) (addr : Byte) (bytes got : List Byte) : BusEvent :=
  ⟨ctx, .write, addr, (s.cfg.writeMask ||| addr) :: bytes, got⟩

/-- The event of a reading transaction of `s` (R163, R164): the command byte and as many 0x00 went out as data bytes
came in; `first` came in with the command byte. -/
def readEvent (s : State) (addr first : Byte) (data : List Byte) : BusEvent :=
  ⟨s.ctx, .read, addr, (s.cfg.readMask ||| addr) :: List.replicate data.length 0x00, first :: data⟩

/-- Every peripheral register reads in `q` as in `p`. -/
def SameRegisters (p q : Peripheral) : Prop := ∀ a, Memory.read q.preg a = Memory.read p.preg a

/-- `bytes` landed in the registers from `addr` on, in transfer order, and every other register reads in `q` as in
`p` (R83). -/
def Landed (addr : Byte) (bytes : List Byte) (p q : Peripheral) : Prop :=
  ∀ a, Memory.read q.preg a =
    if addr.toNat ≤ a ∧ a < addr.toNat + bytes.length then bytes[a - addr.toNat]? else Memory.read p.preg a

/-- The HOST's turn comes, and no edge is to be serviced first (R268). -/
abbrev HostTurn (s : State) : Prop :=
  s.sel = false ∧ s.ctx = .main ∧ s.refused = none ∧ nextEvent s = .host ∧ serviceable s = false

/-- The environment's part of TICKS_ARRIVE (R82), a premise of claims and never part of the machine: `n` edges arrive
one after another, each serviced before the next one comes. -/
def edgesOneByOne : Nat → List Event
  | 0 => []
  | n + 1 => .edge :: .wait :: edgesOneByOne n

/-- REQ = T << 32 | B << 16 | A << 8 | OP (R119). -/
def reqWord (op a b : Byte) (t : BitVec 32) : ReqWord :=
  t.setWidth 64 <<< 32 ||| b.setWidth 64 <<< 16 ||| a.setWidth 64 <<< 8 ||| op.setWidth 64

/-- The BCD byte of R117 for a decimal value, tens digit cut to its nibble (R141). -/
def bcdByte (d : Nat) : Byte := BitVec.ofNat 8 (16 * (d / 10) + d % 10)

/-- The decimal value of a BCD byte, 10 * b[7:4] + b[3:0] (R140). -/
def bcdValue (b : Byte) : Nat := 10 * (b.extractLsb' 4 4).toNat + (b.extractLsb' 0 4).toNat

/-- A valid BCD byte with a value in a range (R46). -/
def validBcd (b : Byte) (lo hi : Nat) : Prop :=
  b.toNat / 16 ≤ 9 ∧ b.toNat % 16 ≤ 9 ∧ lo ≤ bcdValue b ∧ bcdValue b ≤ hi

/-- A valid Time Record (R46): every byte valid BCD, and every field, the weekday too, in its range of R45. -/
def ValidRecord (r : TimeRecord) : Prop :=
  validBcd r.seconds 0 59 ∧ validBcd r.minutes 0 59 ∧ validBcd r.hours 0 23 ∧ validBcd r.day 1 31 ∧
  validBcd r.weekday 0 6 ∧ validBcd r.month 1 12 ∧ validBcd r.year 0 99

end Sys2Proof.Safety
end

