-- ==== Sys2Proof/Certificates/Slice0/Obligations.lean ====
section
/-! DEFINITION. The statements about the block, for the provers. Each says which rule of spec/ it formalises; the
vocabulary (answered, rejected, withFrames, Landed, …) is in Safety.lean. -/

open Sys2Proof Sys2Proof.Machine Sys2Proof.Safety

/-! ## Encoding -/

/-- Decoding the encoded word of any operation gives the operation back, every operand at every value: no field of
R100-R105 and R113 is dropped. -/
def Obligations.DecodeInvertsEncode : Prop :=
  ∀ i : Instr, decodeCode (encodeInstr i) = .ok i

/-- Every raw code that decodes is the encoding of what it decodes to: each operation has one word, and no unused or
reserved bit is ignored (R104, R108). -/
def Obligations.EncodeInvertsDecode : Prop :=
  ∀ (c : Code) (i : Instr), decodeCode c = .ok i → encodeInstr i = c

/-- R111 steps (1) to (3) on every 64-bit word, with the opcode map and the used fields of R108 written out. -/
def Obligations.RequestDecodingOrder : Prop :=
  let hostOps : List Byte :=
    [0x01, 0x02, 0x03, 0x04, 0x05, 0x10, 0x11, 0x12, 0x13, 0x20, 0x21, 0x22, 0x23, 0x24,
     0x30, 0x31, 0x32, 0x33, 0x34, 0x40]
  let usesA : List Byte := [0x01, 0x02, 0x10, 0x11, 0x12, 0x13, 0x20, 0x40]
  let usesB : List Byte := [0x11, 0x12, 0x13, 0x40]
  let usesT : List Byte := [0x03]
  ∀ w : ReqWord,
    if opOf w = 0x3F ∨ opOf w = 0xF0 then decodeRequest w = .error .internalOp
    else if opOf w ∉ hostOps then decodeRequest w = .error .reservedOp
    else if rsvOf w ≠ 0 ∨ (opOf w ∉ usesA ∧ aOf w ≠ 0) ∨ (opOf w ∉ usesB ∧ bOf w ≠ 0) ∨ (opOf w ∉ usesT ∧ tOf w ≠ 0)
    then decodeRequest w = .error .reservedField
    else ∃ i, decodeRequest w = .ok i ∧ encodeInstr i = .req w

/-- R111 step (4) and R107: a request whose DIN length is not the operation's is refused BAD_LENGTH with no other
effect. That an operation R107 does not name takes no bytes is the model's reading (log 10). -/
def Obligations.WrongDinLengthRefused : Prop :=
  ∀ s : State,
    (∀ i ∈ [Instr.decode, .format, .settime], (dinOf s).length ≠ 7 → exec i s = .next (rejected s .badLength)) ∧
    (∀ a n : Byte, (dinOf s).length ≠ n.toNat →
      exec (.bwr a n) s = .next (rejected s .badLength) ∧ exec (.cmd a n) s = .next (rejected s .badLength)) ∧
    (dinOf s ≠ [] →
      (∀ a b : Byte, ∀ i ∈ [Instr.bcd2dec a, .dec2bcd a, .rdreg a, .wrreg a b, .brd a b, .setper a],
        exec i s = .next (rejected s .badLength)) ∧
      (∀ t, exec (.encode t) s = .next (rejected s .badLength)) ∧
      (∀ i ∈ [Instr.stop, .getper, .consume, .getms, .setup, .gettime, .getts, .status],
        exec i s = .next (rejected s .badLength)))

/-- A few words written out from the spec's encodings decode to what they stand for (vectors of 95_test_vectors.md). -/
def Obligations.SpecWordsDecode : Prop :=
  decodeRequest 0x0000000000002A02 = .ok (.dec2bcd 42) ∧
  decodeRequest 0x499602D200000003 = .ok (.encode 1234567890) ∧
  decodeRequest 0x0000000000790E11 = .ok (.wrreg 0x0E 0x79) ∧
  decodeRequest 0x0000000000000820 = .ok (.setper 8) ∧
  decodeRequest 0x0000000000070040 = .ok (.cmd 0 7) ∧
  decodeRequest 0x0000000001000F10 = .error .reservedField ∧
  decodeBusDefault 0x1E = some (.busWrite 0xE) ∧
  decodeBusDefault 0x92 = some (.busRead 0x2)

/-! ## Steps -/

/-- A step runs the decoded request: on the HOST's turn at IDLE, the head of its queue becomes the request in progress
and the step is `exec` of what it decodes to. The queue and the agenda are the model's (log 2, log 3). -/
def Obligations.StepRunsDecodedRequest : Prop :=
  ∀ (s : State) (r : Request) (rest : List Request) (i : Instr),
    HostTurn s → s.seq = .idle → s.host = r :: rest → decodeRequest r.word = .ok i →
      step s = exec i { s with host := rest, req := some r, agenda := s.agenda.tail }

/-- A request that does not decode is refused: REFUSED is set and (reason, REQ) is recorded, and the request has no
other effect on the block (R109, R110, R104, R262). Beside that the request leaves the HOST's queue and the turn's
entry leaves the agenda, both of which are the model's (log 3, log 2); no other field changes. -/
def Obligations.StepRefusesUndecodedRequest : Prop :=
  ∀ (s : State) (r : Request) (rest : List Request) (reason : Reason),
    HostTurn s → s.seq = .idle → s.host = r :: rest → s.req = none → decodeRequest r.word = .error reason →
      step s = .next { s with host := rest, agenda := s.agenda.tail, refused := some ⟨reason, some r.word⟩ }

/-- A step runs the internal codes and the bus command bytes where the block takes them from (R110, R222 U7, R266,
R163; how the model places each is log 2, log 11, log 17 and log 18). -/
def Obligations.StepRunsInternalCodes : Prop :=
  ∀ s : State,
    (HostTurn s → s.seq = .u7 → step s = exec .verify { s with agenda := s.agenda.tail }) ∧
    (serviceable s = true → nextEvent s = .host ∨ nextEvent s = .wait → step s = exec .irqsvc s) ∧
    (∀ b rest i, s.sel = true → s.txn = none → s.outq = b :: rest →
      decodeBus s.cfg.writeMask s.cfg.readMask b = some i → step s = exec i { s with outq := rest })

/-- The HOST's turn with nothing to issue changes nothing but the agenda, whichever entry brought the turn (R277; that the
HOST waits is the model's choice, log 3, and so is the agenda, log 2). -/
def Obligations.IdleHostWaits : Prop :=
  ∀ s : State, HostTurn s → s.seq = .idle → s.host = [] → step s = .next { s with agenda := s.agenda.tail }

/-! ## TimeCodec -/

/-- BCD2DEC (R140): VALUE is 10 * b[7:4] + b[3:0] for every byte; no state of the block changes. -/
def Obligations.Bcd2decValue : Prop :=
  ∀ (b : Byte) (s : State), dinOf s = [] →
    decodeRequest (reqWord 0x01 b 0 0) = .ok (.bcd2dec b) ∧
    exec (.bcd2dec b) s = .next (answered s .ok (BitVec.ofNat 32 (bcdValue b)) [])

/-- DEC2BCD (R141): VALUE is ((d div 10) mod 16) << 4 | (d mod 10) for every d. -/
def Obligations.Dec2bcdValue : Prop :=
  ∀ (d : Byte) (s : State), dinOf s = [] →
    decodeRequest (reqWord 0x02 d 0 0) = .ok (.dec2bcd d) ∧
    exec (.dec2bcd d) s = .next (answered s .ok (BitVec.ofNat 32 (16 * (d.toNat / 10 % 16) + d.toNat % 10)) [])

/-- ENCODE (R142), with each field as one division of the timestamp. -/
def Obligations.EncodeRecord : Prop :=
  ∀ (t : BitVec 32) (s : State), dinOf s = [] →
    decodeRequest (reqWord 0x03 0 0 t) = .ok (.encode t) ∧
    exec (.encode t) s = .next (answered s .ok 0
      [bcdByte (t.toNat % 60), bcdByte (t.toNat / 60 % 60), bcdByte (t.toNat / 3600 % 24),
       bcdByte (t.toNat / 86400 % 31 + 1), s.cfg.weekday, bcdByte (t.toNat / 2678400 % 12 + 1),
       bcdByte (t.toNat / 32140800)])

/-- DECODE (R143): the exact integer sum of the masked fields, modulo 2^32; the weekday byte `r4` is not read. -/
def Obligations.DecodeTimestamp : Prop :=
  ∀ (r0 r1 r2 r3 r4 r5 r6 : Byte) (s : State), dinOf s = [r0, r1, r2, r3, r4, r5, r6] →
    exec .decode s = .next (answered s .ok (BitVec.ofInt 32
      ((bcdValue (r0 &&& s.cfg.decodeMasks.seconds) : Int) + (bcdValue (r1 &&& s.cfg.decodeMasks.minutes) : Int) * 60
        + (bcdValue (r2 &&& s.cfg.decodeMasks.hours) : Int) * 3600
        + ((bcdValue (r3 &&& s.cfg.decodeMasks.day) : Int) - 1) * 86400
        + ((bcdValue (r5 &&& s.cfg.decodeMasks.month) : Int) - 1) * 2678400
        + (bcdValue (r6 &&& s.cfg.decodeMasks.year) : Int) * 32140800)) [])

/-- FORMAT (R148): DOUT is the text in ASCII; each field is the decimal digits of its BCD2DEC value, left-padded with
'0' to at least two characters. -/
def Obligations.FormatText : Prop :=
  let dd : Byte → List Char := fun b => (Nat.toDigits 10 (bcdValue b)).leftpad 2 '0'
  ∀ (r0 r1 r2 r3 r4 r5 r6 : Byte) (s : State), dinOf s = [r0, r1, r2, r3, r4, r5, r6] →
    exec .format s = .next (answered s .ok 0
      ((dd r3 ++ ['-'] ++ dd r5 ++ ['-', '2', '0'] ++ dd r6 ++ [' '] ++ dd r2 ++ [':'] ++ dd r1 ++ [':'] ++ dd r0).map
        (fun c => BitVec.ofNat 8 c.toNat)))

/-- R144: BCD2DEC of DEC2BCD is the identity on 0-159, and takes 160 off on 160-255, as the two operations' responses
show it. -/
def Obligations.BcdRoundTrip : Prop :=
  ∀ (d : Byte) (s : State), dinOf s = [] →
    ∃ b : Byte, exec (.dec2bcd d) s = .next (answered s .ok (b.setWidth 32) []) ∧
      ∀ s' : State, dinOf s' = [] →
        exec (.bcd2dec b) s' = .next (answered s' .ok
          (if d.toNat < 160 then d.setWidth 32 else (d - 160).setWidth 32) [])

/-- R145: ENCODE then DECODE gives every timestamp back, with DECODE_MASKS at its default, whatever the weekday
sentinel. -/
def Obligations.TimestampRoundTrip : Prop :=
  ∀ (t : BitVec 32) (s : State), dinOf s = [] →
    ∃ rec : List Byte, exec (.encode t) s = .next (answered s .ok 0 rec) ∧
      ∀ s' : State, dinOf s' = rec → s'.cfg.decodeMasks = ⟨0xFF, 0xFF, 0xFF, 0xFF, 0xFF, 0xFF, 0xFF⟩ →
        exec .decode s' = .next (answered s' .ok t [])

/-- R146: DECODE then ENCODE gives a valid record back, except its weekday byte, which becomes the sentinel. DECODE does
not read the weekday byte (R143), so the same holds with any byte `w` in its place. -/
def Obligations.RecordRoundTrip : Prop :=
  ∀ (r : TimeRecord) (w : Byte) (s : State), ValidRecord r → dinOf s = recordBytes { r with weekday := w } →
    s.cfg.decodeMasks = ⟨0xFF, 0xFF, 0xFF, 0xFF, 0xFF, 0xFF, 0xFF⟩ →
    ∃ t : BitVec 32, exec .decode s = .next (answered s .ok t []) ∧
      ∀ s' : State, dinOf s' = [] →
        exec (.encode t) s' = .next (answered s' .ok 0 (recordBytes { r with weekday := s'.cfg.weekday }))

/-! ## RegisterBus -/

/-- RDREG (R166): one reading transaction of one data byte; VALUE is that byte; no register of the block or of the
peripheral changes. -/
def Obligations.RdregReadsOneByte : Prop :=
  ∀ (addr : Byte) (s : State), dinOf s = [] → addr.toNat ≤ 0x0F → s.inited = true → s.sel = false →
    ∃ (first v : Byte) (chip : Peripheral),
      exec (.rdreg addr) s =
        .next (answered (withFrames s chip [readEvent s addr first [v]]) .ok (v.setWidth 32) []) ∧
      SameRegisters s.chip chip

/-- WRREG (R167): the byte goes out in one writing transaction and lands in the register; the block's own registers
are not changed. An address past the map, then a request before Setup, is refused. -/
def Obligations.WrregWritesOneByte : Prop :=
  ∀ (addr v : Byte) (s : State), dinOf s = [] →
    decodeRequest (reqWord 0x11 addr v 0) = .ok (.wrreg addr v) ∧
    if 0x0F < addr.toNat then exec (.wrreg addr v) s = .next (rejected s .badAddress)
    else if s.inited = false then exec (.wrreg addr v) s = .next (rejected s .notInitialized)
    else s.sel = false → ∃ (got : List Byte) (chip : Peripheral),
      got.length = 2 ∧
      exec (.wrreg addr v) s = .next (answered (withFrames s chip [writeEvent s s.ctx addr [v] got]) .ok 0 []) ∧
      Landed addr [v] s.chip chip

/-- BRD (R168): one reading transaction of `count` data bytes; DOUT is those bytes. -/
def Obligations.BrdReadsBurst : Prop :=
  ∀ (first count : Byte) (s : State), dinOf s = [] → count ≠ 0 → first.toNat + count.toNat ≤ 16 →
    s.inited = true → s.sel = false →
    ∃ (c : Byte) (data : List Byte) (chip : Peripheral),
      data.length = count.toNat ∧
      exec (.brd first count) s = .next (answered (withFrames s chip [readEvent s first c data]) .ok 0 data) ∧
      SameRegisters s.chip chip

/-- BWR (R169, R83): one writing transaction; the DIN bytes land in ascending registers in transfer order, and every
other register is as before. -/
def Obligations.BwrLandsBurst : Prop :=
  ∀ (first count : Byte) (s : State), (dinOf s).length = count.toNat → count ≠ 0 →
    first.toNat + count.toNat ≤ 16 → s.inited = true → s.sel = false →
    ∃ (got : List Byte) (chip : Peripheral),
      got.length = count.toNat + 1 ∧
      exec (.bwr first count) s =
        .next (answered (withFrames s chip [writeEvent s s.ctx first (dinOf s) got]) .ok 0 []) ∧
      Landed first (dinOf s) s.chip chip

/-- R79, R168, R169, R270: an address past the map, a burst of no bytes, then a burst past the map, is refused before
any bus activity, initialised or not. -/
def Obligations.IllegalAddressesRefused : Prop :=
  ∀ (a n : Byte) (s : State),
    (dinOf s = [] → 0x0F < a.toNat →
      exec (.rdreg a) s = .next (rejected s .badAddress) ∧ exec (.wrreg a n) s = .next (rejected s .badAddress)) ∧
    (n = 0 → dinOf s = [] →
      exec (.brd a n) s = .next (rejected s .badCount) ∧ exec (.bwr a n) s = .next (rejected s .badCount)) ∧
    (n ≠ 0 → 16 < a.toNat + n.toNat →
      (dinOf s = [] → exec (.brd a n) s = .next (rejected s .badAddress)) ∧
      ((dinOf s).length = n.toNat → exec (.bwr a n) s = .next (rejected s .badAddress)))

/-- R221: before the first SETUP completes, every operation that uses the bus is refused NOT_INITIALIZED, whatever its
legal operands. -/
def Obligations.BusOperationsNeedSetup : Prop :=
  ∀ (i : Instr) (s : State), s.inited = false → i.wf = true → (dinOf s).length = dinLength i →
    (match i with
      | .rdreg _ => True
      | .wrreg _ _ => True
      | .brd _ _ => True
      | .bwr _ _ => True
      | .setper _ => True
      | .stop => True
      | .gettime => True
      | .getts => True
      | .settime => True
      | .cmd _ _ => True
      | _ => False) →
    exec i s = .next (rejected s .notInitialized)

/-- R80: the bytes a read returns are whatever the bus draws: for every list of draws to come, BRD answers exactly the
data bytes drawn and uses them up. How the draws are held is the model's (log 4). -/
def Obligations.ReadsReturnTheDraws : Prop :=
  ∀ (first count c : Byte) (data coming : List Byte) (s : State), dinOf s = [] → count ≠ 0 →
    first.toNat + count.toNat ≤ 16 → s.inited = true → s.sel = false → data.length = count.toNat →
    s.chip.answers = .draws (c :: (data ++ coming)) →
    exec (.brd first count) s = .next (answered
      (withFrames s { s.chip with answers := .draws coming } [readEvent s first c data]) .ok 0 data)

/-- R160, R161: entry masks and remembers; exit restores exactly the remembered value, whatever the section did; and
no operation, on any path, leaves IE or the saved values other than it found them: `exec` of any operation, and any
step in the main context outside a frame but power-on, which takes in every micro-step of SETUP and VERIFY (run one a
step, log 11), the interrupt service, which saves IE at its entry and restores it at its return (R266, R267), and a
refusal. The saved values as one stack are the model's (log 14), and so is the agenda, whence power-on comes (log 2).
-/
def Obligations.CriticalSectionsRestoreEnable : Prop :=
  (∀ s : State, (csEnter s).ie = false ∧ csExit (csEnter s) = s) ∧
  (∀ s t : State, t.savedIe = (csEnter s).savedIe → (csExit t).ie = s.ie ∧ (csExit t).savedIe = s.savedIe) ∧
  (∀ (i : Instr) (s t : State), exec i s = .next t → t.ie = s.ie ∧ t.savedIe = s.savedIe) ∧
  (∀ s t : State, s.sel = false → s.ctx = .main → nextEvent s ≠ .powerOn → step s = .next t →
    t.ie = s.ie ∧ t.savedIe = s.savedIe)

/-- R163 to R165: the atomic transaction is what its bytes do one by one. From the frame just selected with the command
byte and the data bytes to send, one step per byte and one to deselect end where BusWrite or BusRead ends. Masks
with a zero low nibble and different high nibbles, as the defaults of R114 are. The open frame as a state between steps
is the model's, and so is the case of no data byte, a transaction R164 and R165 give no meaning (log 18). -/
def Obligations.TransactionIsItsByteSteps : Prop :=
  ∀ (addr : Byte) (s : State), addr.toNat ≤ 0x0F → s.cfg.writeMask &&& 0x0F = 0 → s.cfg.readMask &&& 0x0F = 0 →
    s.cfg.writeMask ≠ s.cfg.readMask →
    (∀ bytes : List Byte, addr.toNat + bytes.length ≤ 16 →
      steps (bytes.length + 2) { select s with outq := (s.cfg.writeMask ||| addr) :: bytes } =
        .next { busWrite addr bytes s with outq := [] }) ∧
    (∀ n : Nat, addr.toNat + n ≤ 16 →
      steps (n + 2) { select s with outq := (s.cfg.readMask ||| addr) :: List.replicate n 0x00 } =
        .next { (busRead addr n s).2 with outq := [] })

/-- R113, R162, R163 step (2): in a frame just selected, a command byte (the mode's mask OR the address, whose six-bit
field has bits 5:4 = 0: log 27) is exchanged,
the transaction's record begins, and the peripheral's pointer takes the address; outside a frame, or after the frame's
command byte, it stops by name (log 18, log 19). -/
def Obligations.CommandByteBeginsTransaction : Prop :=
  ∀ (a : BitVec 4) (s : State),
    (s.sel = true → s.txn = none →
      (∃ (got : Byte) (chip : Peripheral),
        exec (.busWrite a) s = .next { s with
          chip := chip
          txn := some ⟨.write, a.setWidth 8, a.toNat, [s.cfg.writeMask ||| a.setWidth 8], [got]⟩ } ∧
        SameRegisters s.chip chip) ∧
      (∃ (got : Byte) (chip : Peripheral),
        exec (.busRead a) s = .next { s with
          chip := chip
          txn := some ⟨.read, a.setWidth 8, a.toNat, [s.cfg.readMask ||| a.setWidth 8], [got]⟩ } ∧
        SameRegisters s.chip chip)) ∧
    (s.sel = false ∨ s.txn ≠ none →
      exec (.busWrite a) s = .fault .noFrame ∧ exec (.busRead a) s = .fault .noFrame)

/-! ## TickCounter -/

/-- SETPER (R192), every path: refused before Setup; the OFF path; FAIL while faulted; or three writing transactions
in one critical section and the new cached period, with nothing else changed. The two configuration bytes are those of
R115, written out. -/
def Obligations.SetperPaths : Prop :=
  let run : Params → Byte := fun cfg => cfg.cofDisabled ||| cfg.teBit ||| cfg.srcCodes.hz64.setWidth 8
  let stop : Params → Byte := fun cfg => cfg.cofDisabled ||| cfg.srcCodes.hz64.setWidth 8
  ∀ (k : Byte) (s : State), dinOf s = [] → s.sel = false →
    decodeRequest (reqWord 0x20 k 0 0) = .ok (.setper k) ∧
    if s.inited = false then exec (.setper k) s = .next (rejected s .notInitialized)
    else if k = 0 then
      if s.cfg.stopGuarded = true ∧ s.fault = true then exec (.setper k) s = .next (answered s .fail 0 [])
      else ∃ (got : List Byte) (chip : Peripheral),
        exec (.setper k) s = .next (answered
          { withFrames s chip [writeEvent s s.ctx 0x0E [stop s.cfg] got] with periodMs := 0 } .ok 0 []) ∧
        Landed 0x0E [stop s.cfg] s.chip chip
    else if s.fault = true then exec (.setper k) s = .next (answered s .fail 0 [])
    else ∃ (g1 g2 g3 : List Byte) (chip : Peripheral),
      exec (.setper k) s = .next (answered
        { withFrames s chip
            [writeEvent s s.ctx 0x0E [stop s.cfg] g1, writeEvent s s.ctx 0x0F [k] g2,
             writeEvent s s.ctx 0x0E [run s.cfg] g3] with
          periodMs := periodMsOf s.cfg.periodFn k } .ok 0 []) ∧
      Landed 0x0E [run s.cfg, k] s.chip chip

/-- STOP (R193), every path: refused before Setup; FAIL where it is guarded and FAULT = 1; or one writing transaction and
PERIOD_MS <- 0, with nothing else changed. SETPER 0 is not an alias but acts as STOP in every configuration and on every
path (R120). The byte written is TIMER_CFG_STOP of R115, written out. -/
def Obligations.StopPaths : Prop :=
  let stop : Params → Byte := fun cfg => cfg.cofDisabled ||| cfg.srcCodes.hz64.setWidth 8
  ∀ s : State, dinOf s = [] → s.sel = false →
    exec (.setper 0) s = exec .stop s ∧
    if s.inited = false then exec .stop s = .next (rejected s .notInitialized)
    else if s.cfg.stopGuarded = true ∧ s.fault = true then exec .stop s = .next (answered s .fail 0 [])
    else ∃ (got : List Byte) (chip : Peripheral),
      exec .stop s = .next (answered
        { withFrames s chip [writeEvent s s.ctx 0x0E [stop s.cfg] got] with periodMs := 0 } .ok 0 []) ∧
      Landed 0x0E [stop s.cfg] s.chip chip

/-- GETPER (R194): the cached period where FAULT = 0, FAIL where FAULT = 1; before Setup too; nothing else changes. -/
def Obligations.GetperReadsPeriod : Prop :=
  ∀ s : State, dinOf s = [] →
    exec .getper s = .next (if s.fault = true then answered s .fail 0 [] else answered s .ok (s.periodMs.setWidth 32) [])

/-- CONSUME (R195): VALUE is TICK, TICK is then 0; nothing else changes. -/
def Obligations.ConsumeTakesTick : Prop :=
  ∀ s : State, dinOf s = [] →
    exec .consume s = .next (answered { s with tick := false } .ok (if s.tick = true then 1 else 0) [])

/-- GETMS (R196): VALUE is ACC, in every driver state; nothing changes, IE being restored. -/
def Obligations.GetmsReadsAccumulator : Prop :=
  decodeRequest (reqWord 0x24 0 0 0) = .ok .getms ∧
  ∀ s : State, dinOf s = [] → exec .getms s = .next (answered s .ok s.acc [])

/-- The interrupt service (R266, R197, R267): where an edge is serviceable, IRQSVC adds PERIOD_MS to ACC, writes the
acknowledge to 0x01 in the ISR context, sets TICK, clears the latch, and returns with IE, CTX and everything else
as they were; where none is, IRQSVC is an internal code and refused (R110; log 20). -/
def Obligations.ServiceEntryBodyReturn : Prop :=
  ∀ s : State,
    (serviceable s = true → ∃ (got : List Byte) (chip : Peripheral),
      exec .irqsvc s = .next
        { withFrames s chip [writeEvent s .isr 0x01 [s.cfg.ctrl2Tie] got] with
          acc := s.acc + s.periodMs.setWidth 32, tick := true, irqPend := false } ∧
      Landed 0x01 [s.cfg.ctrl2Tie] s.chip chip) ∧
    (serviceable s = false → exec .irqsvc s = .next (rejected s .internalOp))

/-- R198: `n` edges that arrive one by one are `n` services: three steps each, ACC grows by n * PERIOD_MS modulo 2^32,
TICK is set by the first, each appends one transaction, the acknowledge of R197 in the ISR context, which is all that
lands in the peripheral's registers, and nothing else changes, whatever SEQ is. The agenda that brings the edges is the
model's (log 2, log 12). -/
def Obligations.ServicesAccumulate : Prop :=
  ∀ (n : Nat) (s : State) (rest : List Event), Settled s → s.irqWired = true → s.irqPend = false →
    s.agenda = edgesOneByOne n ++ rest →
    ∃ (chip : Peripheral) (events : List BusEvent), events.length = n ∧
      (∀ e ∈ events, ∃ got : List Byte, e = writeEvent s .isr 0x01 [s.cfg.ctrl2Tie] got) ∧
      (n = 0 → SameRegisters s.chip chip) ∧
      (0 < n → Landed 0x01 [s.cfg.ctrl2Tie] s.chip chip) ∧
      steps (3 * n) s = .next
        { withFrames s chip events with
          acc := s.acc + BitVec.ofNat 32 n * s.periodMs.setWidth 32
          tick := s.tick || decide (0 < n)
          agenda := rest }

/-- R199: after a CONSUME and then `n` serviced edges, the next CONSUME returns 1 exactly where n > 0, and the one after
it returns 0. The agenda is the model's (log 2). -/
def Obligations.TickSeenOnce : Prop :=
  ∀ (n : Nat) (s s1 : State) (rest : List Event), Settled s → s.irqWired = true → s.irqPend = false →
    dinOf s = [] → exec .consume s = .next s1 → s.agenda = edgesOneByOne n ++ rest →
    ∃ t t1 : State, steps (3 * n) s1 = .next t ∧
      exec .consume t = .next t1 ∧ t1.responses = t.responses ++ [⟨.ok, if 0 < n then 1 else 0, []⟩] ∧
      exec .consume t1 = .next (answered t1 .ok 0 [])

/-- R191: PERIOD_MS_FN at its default is (k * 1000) div 64 with nothing lost in 16 bits, from 15 to 3984 for k in
1-255, and SETPER k caches it. -/
def Obligations.PeriodConversion : Prop :=
  ∀ (k : Byte) (s : State), k ≠ 0 → dinOf s = [] → s.inited = true → s.fault = false → s.sel = false →
    s.cfg.periodFn = .exact →
    ∃ t, exec (.setper k) s = .next t ∧ t.periodMs.toNat = k.toNat * 1000 / 64 ∧
      15 ≤ t.periodMs.toNat ∧ t.periodMs.toNat ≤ 3984

/-- R234: while FAULT = 1, SETPER with k /= 0 and GETPER respond FAIL, STOP and SETPER 0 respond FAIL where
STOP_GUARDED and only there, and a gated operation has no effect before it responds FAIL. -/
def Obligations.FaultGating : Prop :=
  ∀ (k : Byte) (s : State), s.fault = true → s.inited = true → dinOf s = [] → s.sel = false →
    (k ≠ 0 → exec (.setper k) s = .next (answered s .fail 0 [])) ∧
    exec .getper s = .next (answered s .fail 0 []) ∧
    (s.cfg.stopGuarded = true →
      exec .stop s = .next (answered s .fail 0 []) ∧ exec (.setper 0) s = .next (answered s .fail 0 [])) ∧
    (s.cfg.stopGuarded = false →
      (∃ t, exec .stop s = .next t ∧ t.responses = s.responses ++ [⟨.ok, 0, []⟩] ∧ t.periodMs = 0) ∧
      (∃ t, exec (.setper 0) s = .next t ∧ t.responses = s.responses ++ [⟨.ok, 0, []⟩] ∧ t.periodMs = 0))

/-! ## Setup and Verify -/

/-- SETUP is issued in any driver state (R221, R222): its first micro-step U1 clears FAULT and changes nothing else, and
U2 is next. U0, which has no effect, is in the same step (log 11, log 25). -/
def Obligations.SetupBegins : Prop :=
  decodeRequest (reqWord 0x30 0 0 0) = .ok .setup ∧
  ∀ s : State, dinOf s = [] → exec .setup s = .next { s with fault := false, seq := .u2 }

/-- VERIFY (R225 V0, R226): begun as step U7 of SETUP, it goes on to V1 where an interrupt source is configured, and
where none is it returns at once with no bus access and FAULT as it was; begun elsewhere it is refused (R110;
log 20). That U7 and V0 are one step and U8 follows a return is the model's layout of the steps (log 11). -/
def Obligations.VerifyBegins : Prop :=
  ∀ s : State,
    (s.seq = .u7 → exec .verify s = .next { s with seq := if s.cfg.hasIrq = true then .v1 else .u8 }) ∧
    (s.seq ≠ .u7 → exec .verify s = .next (rejected s .internalOp))

/-- U2 to U4 of SETUP (R222, R223): the seconds register is read; where its bit 7 is set the reset command and then the
record of timestamp 0 are written, and where it is not neither is. That U3 then goes straight to U5, past U4, which does
nothing there, is the model's layout of the steps (log 11), as the agenda's entry is the model's (log 2). -/
def Obligations.SetupRecoversOscillatorStop : Prop :=
  ∀ s : State, HostTurn s →
    (s.seq = .u2 → ∃ (c v : Byte) (chip : Peripheral),
      step s = .next { withFrames s chip [readEvent s 0x02 c [v]] with seq := .u3 v, agenda := s.agenda.tail } ∧
      SameRegisters s.chip chip) ∧
    (∀ v : Byte, s.seq = .u3 v → v.toNat < 128 → step s = .next { s with seq := .u5, agenda := s.agenda.tail }) ∧
    (∀ v : Byte, s.seq = .u3 v → 128 ≤ v.toNat → ∃ (got : List Byte) (chip : Peripheral),
      step s = .next
        { withFrames s chip [writeEvent s s.ctx (s.cfg.resetReg.setWidth 8) [s.cfg.resetValue] got] with
          seq := .u4, agenda := s.agenda.tail } ∧
      Landed (s.cfg.resetReg.setWidth 8) [s.cfg.resetValue] s.chip chip) ∧
    (s.seq = .u4 → ∃ (got : List Byte) (chip : Peripheral),
      step s = .next
        { withFrames s chip [writeEvent s s.ctx 0x02 [0x00, 0x00, 0x00, 0x01, s.cfg.weekday, 0x01, 0x00] got] with
          seq := .u5, agenda := s.agenda.tail } ∧
      Landed 0x02 [0x00, 0x00, 0x00, 0x01, s.cfg.weekday, 0x01, 0x00] s.chip chip)

/-- U5, U6 and U8 of SETUP (R222, R224, R39): the line is wired and the peripheral told to drive it where an interrupt
source is configured; INITED <- 1 and the response OK end SETUP. That U5 without a source goes straight to U7, past U6,
which does nothing there, is the model's layout of the steps (log 11), as the agenda's entry is the model's (log 2). -/
def Obligations.SetupWiresAndEnds : Prop :=
  ∀ s : State, HostTurn s →
    (s.seq = .u5 → s.cfg.hasIrq = true →
      step s = .next { s with irqWired := true, seq := .u6, agenda := s.agenda.tail }) ∧
    (s.seq = .u5 → s.cfg.hasIrq = false → step s = .next { s with seq := .u7, agenda := s.agenda.tail }) ∧
    (s.seq = .u6 → ∃ (got : List Byte) (chip : Peripheral),
      step s = .next
        { withFrames s chip [writeEvent s s.ctx 0x01 [s.cfg.ctrl2Tie] got] with
          seq := .u7, agenda := s.agenda.tail } ∧
      Landed 0x01 [s.cfg.ctrl2Tie] s.chip chip) ∧
    (s.seq = .u8 → step s = .next (answered { s with inited := true, agenda := s.agenda.tail } .ok 0 []))

/-- V1 to V4 of VERIFY (R225, R227): TICK is cleared, a 1-tick period is configured, the configuration is read back, and
FAULT <- 1 exactly where the bytes are not EXPECTED; the timer is then left as it is. That U8 follows
V4's return is the model's layout of the steps (log 11), as the agenda's entry is the model's (log 2). -/
def Obligations.VerifyReadsBack : Prop :=
  let expected : Params → List Byte := fun cfg =>
    match cfg.verifyReadback with
    | .cfgAndCount => [timerCfgRun cfg, 0x01]
    | .cfgOnly => [timerCfgRun cfg]
  ∀ s : State, HostTurn s →
    (s.seq = .v1 → step s = .next { s with tick := false, seq := .v2, agenda := s.agenda.tail }) ∧
    (s.seq = .v2 → ∃ (g1 g2 g3 : List Byte) (chip : Peripheral),
      step s = .next
        { withFrames s chip
            [writeEvent s s.ctx 0x0E [timerCfgStop s.cfg] g1, writeEvent s s.ctx 0x0F [0x01] g2,
             writeEvent s s.ctx 0x0E [timerCfgRun s.cfg] g3] with
          periodMs := periodMsOf s.cfg.periodFn 1, seq := .v3, agenda := s.agenda.tail } ∧
      Landed 0x0E [timerCfgRun s.cfg, 0x01] s.chip chip) ∧
    (s.seq = .v3 → ∃ (c : Byte) (data : List Byte) (chip : Peripheral), data.length = (expected s.cfg).length ∧
      step s = .next { withFrames s chip [readEvent s 0x0E c data] with seq := .v4 data, agenda := s.agenda.tail } ∧
      SameRegisters s.chip chip) ∧
    (s.seq = .v4 (expected s.cfg) → step s = .next { s with seq := .v5, agenda := s.agenda.tail }) ∧
    (∀ rb : List Byte, s.seq = .v4 rb → rb ≠ expected s.cfg →
      step s = .next { s with fault := true, seq := .u8, agenda := s.agenda.tail })

/-- V5 to V8 of VERIFY (R225, R228, R237 (c) and (d)), step by step: the wait ends; TIMER_CFG_STOP is written to 0x0E and
PERIOD_MS is 0 (R193); TICK is read and cleared; FAULT <- 1 where TICK was 0. Then as one run: with the readback matched,
`n` edges that arrive one by one in the wait (any n, zero included) are each serviced; Verify ends with the
timer stopped, TICK clear, and FAULT set exactly where no tick was observed; BUSLOG and the peripheral's registers
show the n acknowledges and the stop, and nothing else changes. The agenda and the wait as one turn of it are the
model's (log 2, log 13), and so is that U8 follows V8 (log 11). -/
def Obligations.VerifyWaitDecidesFault : Prop :=
  (∀ s : State, HostTurn s →
    (s.seq = .v5 → step s = .next { s with seq := .v6, agenda := s.agenda.tail }) ∧
    (s.seq = .v6 → ∃ (got : List Byte) (chip : Peripheral),
      step s = .next
        { withFrames s chip [writeEvent s s.ctx 0x0E [timerCfgStop s.cfg] got] with
          periodMs := 0, seq := .v7, agenda := s.agenda.tail } ∧
      Landed 0x0E [timerCfgStop s.cfg] s.chip chip) ∧
    (s.seq = .v7 → step s = .next { s with tick := false, seq := .v8 s.tick, agenda := s.agenda.tail }) ∧
    (s.seq = .v8 true → step s = .next { s with seq := .u8, agenda := s.agenda.tail }) ∧
    (s.seq = .v8 false → step s = .next { s with fault := true, seq := .u8, agenda := s.agenda.tail })) ∧
  (∀ (n : Nat) (s : State), Settled s → s.refused = none → s.irqWired = true → s.irqPend = false →
    s.seq = .v5 → s.agenda = edgesOneByOne n →
    ∃ (got : List Byte) (chip : Peripheral) (events : List BusEvent), events.length = n ∧
      (∀ e ∈ events, ∃ got' : List Byte, e = writeEvent s .isr 0x01 [s.cfg.ctrl2Tie] got') ∧
      steps (3 * n + 4) s = .next
        { withFrames s chip (events ++ [writeEvent s .main 0x0E [timerCfgStop s.cfg] got]) with
          acc := s.acc + BitVec.ofNat 32 n * s.periodMs.setWidth 32
          periodMs := 0
          tick := false
          fault := s.fault || (!s.tick && decide (n = 0))
          seq := .u8
          agenda := [] } ∧
      ∀ a : Nat, Memory.read chip.preg a =
        if a = 0x0E then some (timerCfgStop s.cfg)
        else if a = 0x01 ∧ 0 < n then some s.cfg.ctrl2Tie
        else Memory.read s.chip.preg a)

/-- R222, R225, R226, R237: a SETUP during which no edge arrives, whatever the bus returns and however it is
configured, ends within 16 steps, responds OK, and leaves the driver Operational where no interrupt source is
configured and Faulted where one is; ACC is not reset. The steps are counted as log 11 lays them out; the agenda and
the queue are the model's (log 2, log 3). -/
def Obligations.SetupWithoutEdges : Prop :=
  ∀ (s : State) (rest : List Request), Settled s → s.refused = none → s.irqPend = false → s.seq = .idle →
    s.agenda = [] → s.host = ⟨0x30, []⟩ :: rest →
    ∃ (n : Nat) (t : State), n ≤ 16 ∧ steps n s = .next t ∧ t.seq = .idle ∧ t.req = none ∧ t.inited = true ∧
      t.fault = s.cfg.hasIrq ∧ t.irqWired = (s.irqWired || s.cfg.hasIrq) ∧ t.acc = s.acc ∧
      t.responses = s.responses ++ [⟨.ok, 0, []⟩] ∧ t.host = rest

/-! ## Time access and STATUS -/

/-- GETTIME (R230): one burst read of seven bytes from the seconds register on; DOUT is the raw bytes; available when
Faulted. -/
def Obligations.GettimeReturnsRawBytes : Prop :=
  ∀ s : State, dinOf s = [] → s.inited = true → s.sel = false →
    ∃ (c : Byte) (data : List Byte) (chip : Peripheral), data.length = 7 ∧
      exec .gettime s = .next (answered (withFrames s chip [readEvent s 0x02 c data]) .ok 0 data) ∧
      SameRegisters s.chip chip

/-- GETTS (R231): the same one transaction, and VALUE is what DECODE answers for the seven bytes read. -/
def Obligations.GettsDecodesOneSnapshot : Prop :=
  decodeRequest (reqWord 0x32 0 0 0) = .ok .getts ∧
  ∀ s : State, dinOf s = [] →
    (s.inited = false → exec .getts s = .next (rejected s .notInitialized)) ∧
    (s.inited = true → s.sel = false →
      ∃ (c : Byte) (data : List Byte) (chip : Peripheral) (v : BitVec 32), data.length = 7 ∧
        exec .getts s = .next (answered (withFrames s chip [readEvent s 0x02 c data]) .ok v []) ∧
        SameRegisters s.chip chip ∧
        ∀ s' : State, s'.cfg = s.cfg → dinOf s' = data → exec .decode s' = .next (answered s' .ok v []))

/-- SETTIME (R232): one burst write of the seven bytes of DIN from the seconds register on, whatever they are;
available when Faulted. -/
def Obligations.SettimeWritesRecord : Prop :=
  decodeRequest (reqWord 0x33 0 0 0) = .ok .settime ∧
  ∀ s : State,
    if (dinOf s).length ≠ 7 then exec .settime s = .next (rejected s .badLength)
    else if s.inited = false then exec .settime s = .next (rejected s .notInitialized)
    else s.sel = false → ∃ (got : List Byte) (chip : Peripheral), got.length = 8 ∧
      exec .settime s = .next (answered (withFrames s chip [writeEvent s s.ctx 0x02 (dinOf s) got]) .ok 0 []) ∧
      Landed 0x02 (dinOf s) s.chip chip

/-- STATUS (R233): VALUE bit 0 is FAULT and bit 1 is INITED, in every state; nothing changes. -/
def Obligations.StatusReadsFlags : Prop :=
  ∀ s : State, dinOf s = [] →
    exec .status s = .next (answered s .ok
      (BitVec.ofNat 32 ((if s.inited = true then 2 else 0) + (if s.fault = true then 1 else 0))) [])

/-! ## Command boundary -/

/-- CMD kind 0 (R251): a payload of the wrong size is a data-size error with no state mutated and no bus access; seven
bytes are written as SETTIME writes them. -/
def Obligations.CmdSetTime : Prop :=
  ∀ (len : Byte) (s : State), (dinOf s).length = len.toNat → s.sel = false →
    if s.inited = false then exec (.cmd 0 len) s = .next (rejected s .notInitialized)
    else if len ≠ 7 then exec (.cmd 0 len) s = .next (answered s .dataSizeError 0 [])
    else ∃ (got : List Byte) (chip : Peripheral), got.length = 8 ∧
      exec (.cmd 0 len) s = .next (answered (withFrames s chip [writeEvent s s.ctx 0x02 (dinOf s) got]) .ok 0 []) ∧
      Landed 0x02 (dinOf s) s.chip chip

/-- CMD kind 1 (R252): a general error with no bus access where no sink is configured; otherwise one burst read, and
DOUT is what FORMAT answers for the seven bytes; a payload is ignored. -/
def Obligations.CmdPrintTime : Prop :=
  ∀ (len : Byte) (s : State), (dinOf s).length = len.toNat → s.inited = true → s.sel = false →
    (s.cfg.hasSink = false → exec (.cmd 1 len) s = .next (answered s .generalError 0 [])) ∧
    (s.cfg.hasSink = true →
      ∃ (c : Byte) (data text : List Byte) (chip : Peripheral), data.length = 7 ∧
        exec (.cmd 1 len) s = .next (answered (withFrames s chip [readEvent s 0x02 c data]) .ok 0 text) ∧
        SameRegisters s.chip chip ∧
        ∀ s' : State, dinOf s' = data → exec .format s' = .next (answered s' .ok 0 text))

/-- CMD of any other kind (R253): the request ends with no response, no bus access and no state change. -/
def Obligations.CmdUnrecognizedIsSilent : Prop :=
  ∀ (kind len : Byte) (s : State), kind ≠ 0 → kind ≠ 1 → (dinOf s).length = len.toNat → s.inited = true →
    s.sel = false → exec (.cmd kind len) s = .next (ended s)

/-! ## The interrupt and the outside world -/

/-- R264, R37, R228, R8: an edge sets the latch where the line is wired and is ignored where it is not; WAIT's turn
changes nothing; a second instance on the line is refused. Each at any SEQ and any IE, outside a frame. The events are the
agenda's (log 2, log 13); that the second instance is refused whatever HAS_IRQ and IRQ_WIRED are, and that its record
replaces an earlier one, is the model's choice (log 15). -/
def Obligations.OutsideEvents : Prop :=
  ∀ (s : State) (rest : List Event), s.sel = false →
    (s.agenda = .edge :: rest →
      step s = .next { s with agenda := rest, irqPend := if s.irqWired = true then true else s.irqPend }) ∧
    (s.agenda = .wait :: rest → serviceable s = false → step s = .next { s with agenda := rest }) ∧
    (s.agenda = .bindSecond :: rest →
      step s = .next { s with agenda := rest, refused := some ⟨.secondInstance, none⟩ })

/-- R268: while an edge is serviceable the HOST runs no micro-step: on its turn the service runs instead, the turn is
kept, and afterwards the edge is gone. R36, R266: where IE = 0, or no edge is latched, nothing is serviced: the HOST's
turn is its own micro-step and WAIT's turn changes nothing; the latch and ACC stay, and TICK is not set. That the turn
is kept is the model's choice (log 2). -/
def Obligations.ServiceBeforeHost : Prop :=
  (∀ s : State, s.ctx = .main → s.ie = true → s.irqPend = true → s.sel = false → nextEvent s = .host →
    ∃ t : State, step s = .next t ∧ t.irqPend = false ∧ t.acc = s.acc + s.periodMs.setWidth 32 ∧ t.tick = true ∧
      t.seq = s.seq ∧ t.req = s.req ∧ t.host = s.host ∧ t.agenda = s.agenda ∧ t.responses = s.responses ∧
      t.ie = true ∧ t.ctx = .main) ∧
  (∀ s : State, s.ctx = .main → s.sel = false → s.ie = false ∨ s.irqPend = false →
    (nextEvent s = .host → step s = hostMove { s with agenda := s.agenda.tail }) ∧
    (nextEvent s = .wait → step s = .next { s with agenda := s.agenda.tail }) ∧
    (nextEvent s = .host → ∀ t : State, step s = .next t →
      t.irqPend = s.irqPend ∧ t.acc = s.acc ∧ (s.tick = false → t.tick = false)))

/-- R262: once REFUSED = 1 the HOST has no further step, whatever SEQ names and whatever it would issue. The
model's answer to such a turn is the refusal hostStuck (log 9); whose turn it is, the agenda says (log 2). -/
def Obligations.RefusedHostHasNoStep : Prop :=
  ∀ s : State, s.refused ≠ none → s.sel = false → s.ctx = .main → nextEvent s = .host →
    serviceable s = false → step s = .refused .hostStuck

/-- Power-on (R300, R48): every register of the block at its power-on value, BUSLOG empty; the configuration and the
peripheral's battery-backed registers stay. What belongs to the outside world stays too (log 16), but for the event's
own entry in the agenda (log 2). That the request in progress, the saved IE values, the transaction record and the
bytes to send, to which R48 gives no value, become empty is the model's choice (log 6). -/
def Obligations.PowerOnResets : Prop :=
  ∀ (s : State) (rest : List Event), s.sel = false → s.agenda = .powerOn :: rest →
    step s = .next
      { cfg := s.cfg, acc := 0, periodMs := 0, tick := false, fault := false, inited := false, irqWired := false,
        ie := true, irqPend := false, ctx := .main, seq := .idle, sel := false, refused := none, req := none,
        savedIe := [], txn := none, outq := [], chip := s.chip, busLog := [], responses := s.responses,
        host := s.host, agenda := rest }

/-! ## The whole machine -/

/-- R51, R42, R35, R39, R52: no step changes the configuration; and but for power-on, no step clears REFUSED, INITED
or IRQ_WIRED, and BUSLOG and the responses only grow. The agenda (whence power-on comes, log 2) and a step inside an
open frame (log 18) are the model's. -/
def Obligations.StepKeepsStickyState : Prop :=
  ∀ s t : State, step s = .next t →
    t.cfg = s.cfg ∧
    (s.sel = true ∨ nextEvent s ≠ .powerOn →
      (s.refused ≠ none → t.refused ≠ none) ∧ (s.inited = true → t.inited = true) ∧
      (s.irqWired = true → t.irqWired = true) ∧ s.busLog <+: t.busLog ∧ s.responses <+: t.responses)

/-- R31, R33: but for power-on, ACC changes only in the interrupt service, which adds PERIOD_MS modulo 2^32, and TICK
is set only there. The agenda (whence power-on comes, log 2) and a step inside an open frame (log 18) are the model's.
-/
def Obligations.OnlyServiceAdvancesClock : Prop :=
  ∀ s t : State, step s = .next t → s.sel = true ∨ nextEvent s ≠ .powerOn →
    (t.acc ≠ s.acc → serviceable s = true ∧ t.acc = s.acc + s.periodMs.setWidth 32) ∧
    (s.tick = false → t.tick = true → serviceable s = true)

/-- The write columns of R50, for ACC, PERIOD_MS, TICK, FAULT, INITED, IRQ_WIRED, IE and SEL, and R51: `exec` of an
operation changes none of them but those R50 lets it write, and an operation with no SEL access leaves BUSLOG and the
peripheral as they were. SETUP is U1 under `exec`, and its later micro-steps run one a step (log 11; whose turn it is,
log 2), so a second clause says what none of them changes. IE and SEL are compared before and after: where R50 lets an
operation write them it restores them within its one atomic step. The read columns are not stated here. -/
def Obligations.AccessRights : Prop :=
  (∀ (i : Instr) (s t : State), exec i s = .next t →
    (t.periodMs ≠ s.periodMs → (∃ k, i = .setper k) ∨ i = .stop) ∧
    (t.fault ≠ s.fault → i = .setup) ∧
    (t.tick ≠ s.tick → i = .consume ∨ i = .irqsvc) ∧
    (t.acc ≠ s.acc → i = .irqsvc) ∧
    t.irqWired = s.irqWired ∧ t.inited = s.inited ∧ t.cfg = s.cfg ∧ t.ie = s.ie ∧ t.sel = s.sel ∧
    ((match i with
        | .bcd2dec _ => True
        | .dec2bcd _ => True
        | .encode _ => True
        | .decode => True
        | .format => True
        | .getper => True
        | .consume => True
        | .getms => True
        | .status => True
        | _ => False) →
      t.busLog = s.busLog ∧ t.chip = s.chip)) ∧
  (∀ s t : State, HostTurn s → s.seq ≠ .idle → step s = .next t →
    t.acc = s.acc ∧ t.cfg = s.cfg ∧ t.ie = s.ie ∧ t.sel = false)

/-- Every step keeps the invariant `Inv`: settled between atomic steps (SEL 0, IE 1, CTX MAIN, no critical section),
the interrupt flags and SEQ agree with the configuration, FAULT is decided once per SETUP, a request is in progress
exactly while SEQ is not IDLE, and the peripheral's registers keep their canonical form. -/
def Obligations.StepKeepsInvariant : Prop :=
  ∀ s t : State, Inv s → step s = .next t → Inv t

/-- The invariant holds after reset, with the register values of R48. For the fields the spec gives no reset value the
invariant rests on the model's choice (log 6). -/
def Obligations.ResetMeetsInvariant : Prop :=
  Inv State.reset ∧ driverState State.reset = .uninitialized ∧ State.reset.acc = 0 ∧ State.reset.periodMs = 0 ∧
    State.reset.tick = false ∧ State.reset.irqWired = false ∧ State.reset.irqPend = false ∧
    EndsWell State.reset ∧ State.reset.busLog = []
end

