-- ==== Sys2Proof/Laws/State.lean ====
section
/-! SUPPORT. One lemma per field per update of the state, each true by unfolding, so that no later proof unfolds a
record update. -/

namespace Sys2Proof.Machine

variable (s : State)

/-! ### csEnter -/

@[simp] theorem csEnter_cfg : (csEnter s).cfg = s.cfg := rfl
@[simp] theorem csEnter_acc : (csEnter s).acc = s.acc := rfl
@[simp] theorem csEnter_periodMs : (csEnter s).periodMs = s.periodMs := rfl
@[simp] theorem csEnter_tick : (csEnter s).tick = s.tick := rfl
@[simp] theorem csEnter_fault : (csEnter s).fault = s.fault := rfl
@[simp] theorem csEnter_inited : (csEnter s).inited = s.inited := rfl
@[simp] theorem csEnter_irqWired : (csEnter s).irqWired = s.irqWired := rfl
@[simp] theorem csEnter_ie : (csEnter s).ie = false := rfl
@[simp] theorem csEnter_irqPend : (csEnter s).irqPend = s.irqPend := rfl
@[simp] theorem csEnter_ctx : (csEnter s).ctx = s.ctx := rfl
@[simp] theorem csEnter_seq : (csEnter s).seq = s.seq := rfl
@[simp] theorem csEnter_sel : (csEnter s).sel = s.sel := rfl
@[simp] theorem csEnter_refused : (csEnter s).refused = s.refused := rfl
@[simp] theorem csEnter_req : (csEnter s).req = s.req := rfl
@[simp] theorem csEnter_savedIe : (csEnter s).savedIe = s.ie :: s.savedIe := rfl
@[simp] theorem csEnter_txn : (csEnter s).txn = s.txn := rfl
@[simp] theorem csEnter_outq : (csEnter s).outq = s.outq := rfl
@[simp] theorem csEnter_chip : (csEnter s).chip = s.chip := rfl
@[simp] theorem csEnter_busLog : (csEnter s).busLog = s.busLog := rfl
@[simp] theorem csEnter_responses : (csEnter s).responses = s.responses := rfl
@[simp] theorem csEnter_host : (csEnter s).host = s.host := rfl
@[simp] theorem csEnter_agenda : (csEnter s).agenda = s.agenda := rfl

/-! ### restoreIe -/

@[simp] theorem restoreIe_cfg : (restoreIe s).cfg = s.cfg := rfl
@[simp] theorem restoreIe_acc : (restoreIe s).acc = s.acc := rfl
@[simp] theorem restoreIe_periodMs : (restoreIe s).periodMs = s.periodMs := rfl
@[simp] theorem restoreIe_tick : (restoreIe s).tick = s.tick := rfl
@[simp] theorem restoreIe_fault : (restoreIe s).fault = s.fault := rfl
@[simp] theorem restoreIe_inited : (restoreIe s).inited = s.inited := rfl
@[simp] theorem restoreIe_irqWired : (restoreIe s).irqWired = s.irqWired := rfl
@[simp] theorem restoreIe_ie : (restoreIe s).ie = s.savedIe.headD s.ie := rfl
@[simp] theorem restoreIe_irqPend : (restoreIe s).irqPend = s.irqPend := rfl
@[simp] theorem restoreIe_ctx : (restoreIe s).ctx = s.ctx := rfl
@[simp] theorem restoreIe_seq : (restoreIe s).seq = s.seq := rfl
@[simp] theorem restoreIe_sel : (restoreIe s).sel = s.sel := rfl
@[simp] theorem restoreIe_refused : (restoreIe s).refused = s.refused := rfl
@[simp] theorem restoreIe_req : (restoreIe s).req = s.req := rfl
@[simp] theorem restoreIe_savedIe : (restoreIe s).savedIe = s.savedIe.tail := rfl
@[simp] theorem restoreIe_txn : (restoreIe s).txn = s.txn := rfl
@[simp] theorem restoreIe_outq : (restoreIe s).outq = s.outq := rfl
@[simp] theorem restoreIe_chip : (restoreIe s).chip = s.chip := rfl
@[simp] theorem restoreIe_busLog : (restoreIe s).busLog = s.busLog := rfl
@[simp] theorem restoreIe_responses : (restoreIe s).responses = s.responses := rfl
@[simp] theorem restoreIe_host : (restoreIe s).host = s.host := rfl
@[simp] theorem restoreIe_agenda : (restoreIe s).agenda = s.agenda := rfl

/-! ### csExit -/

@[simp] theorem csExit_cfg : (csExit s).cfg = s.cfg := rfl
@[simp] theorem csExit_acc : (csExit s).acc = s.acc := rfl
@[simp] theorem csExit_periodMs : (csExit s).periodMs = s.periodMs := rfl
@[simp] theorem csExit_tick : (csExit s).tick = s.tick := rfl
@[simp] theorem csExit_fault : (csExit s).fault = s.fault := rfl
@[simp] theorem csExit_inited : (csExit s).inited = s.inited := rfl
@[simp] theorem csExit_irqWired : (csExit s).irqWired = s.irqWired := rfl
@[simp] theorem csExit_ie : (csExit s).ie = s.savedIe.headD s.ie := rfl
@[simp] theorem csExit_irqPend : (csExit s).irqPend = s.irqPend := rfl
@[simp] theorem csExit_ctx : (csExit s).ctx = s.ctx := rfl
@[simp] theorem csExit_seq : (csExit s).seq = s.seq := rfl
@[simp] theorem csExit_sel : (csExit s).sel = s.sel := rfl
@[simp] theorem csExit_refused : (csExit s).refused = s.refused := rfl
@[simp] theorem csExit_req : (csExit s).req = s.req := rfl
@[simp] theorem csExit_savedIe : (csExit s).savedIe = s.savedIe.tail := rfl
@[simp] theorem csExit_txn : (csExit s).txn = s.txn := rfl
@[simp] theorem csExit_outq : (csExit s).outq = s.outq := rfl
@[simp] theorem csExit_chip : (csExit s).chip = s.chip := rfl
@[simp] theorem csExit_busLog : (csExit s).busLog = s.busLog := rfl
@[simp] theorem csExit_responses : (csExit s).responses = s.responses := rfl
@[simp] theorem csExit_host : (csExit s).host = s.host := rfl
@[simp] theorem csExit_agenda : (csExit s).agenda = s.agenda := rfl

/-! ### select -/

@[simp] theorem select_cfg : (select s).cfg = s.cfg := rfl
@[simp] theorem select_acc : (select s).acc = s.acc := rfl
@[simp] theorem select_periodMs : (select s).periodMs = s.periodMs := rfl
@[simp] theorem select_tick : (select s).tick = s.tick := rfl
@[simp] theorem select_fault : (select s).fault = s.fault := rfl
@[simp] theorem select_inited : (select s).inited = s.inited := rfl
@[simp] theorem select_irqWired : (select s).irqWired = s.irqWired := rfl
@[simp] theorem select_ie : (select s).ie = s.ie := rfl
@[simp] theorem select_irqPend : (select s).irqPend = s.irqPend := rfl
@[simp] theorem select_ctx : (select s).ctx = s.ctx := rfl
@[simp] theorem select_seq : (select s).seq = s.seq := rfl
@[simp] theorem select_sel : (select s).sel = true := rfl
@[simp] theorem select_refused : (select s).refused = s.refused := rfl
@[simp] theorem select_req : (select s).req = s.req := rfl
@[simp] theorem select_savedIe : (select s).savedIe = s.savedIe := rfl
@[simp] theorem select_txn : (select s).txn = none := rfl
@[simp] theorem select_outq : (select s).outq = s.outq := rfl
@[simp] theorem select_chip : (select s).chip = s.chip := rfl
@[simp] theorem select_busLog : (select s).busLog = s.busLog := rfl
@[simp] theorem select_responses : (select s).responses = s.responses := rfl
@[simp] theorem select_host : (select s).host = s.host := rfl
@[simp] theorem select_agenda : (select s).agenda = s.agenda := rfl

/-! ### endRequest -/

@[simp] theorem endRequest_cfg : (endRequest s).cfg = s.cfg := rfl
@[simp] theorem endRequest_acc : (endRequest s).acc = s.acc := rfl
@[simp] theorem endRequest_periodMs : (endRequest s).periodMs = s.periodMs := rfl
@[simp] theorem endRequest_tick : (endRequest s).tick = s.tick := rfl
@[simp] theorem endRequest_fault : (endRequest s).fault = s.fault := rfl
@[simp] theorem endRequest_inited : (endRequest s).inited = s.inited := rfl
@[simp] theorem endRequest_irqWired : (endRequest s).irqWired = s.irqWired := rfl
@[simp] theorem endRequest_ie : (endRequest s).ie = s.ie := rfl
@[simp] theorem endRequest_irqPend : (endRequest s).irqPend = s.irqPend := rfl
@[simp] theorem endRequest_ctx : (endRequest s).ctx = s.ctx := rfl
@[simp] theorem endRequest_seq : (endRequest s).seq = .idle := rfl
@[simp] theorem endRequest_sel : (endRequest s).sel = s.sel := rfl
@[simp] theorem endRequest_refused : (endRequest s).refused = s.refused := rfl
@[simp] theorem endRequest_req : (endRequest s).req = none := rfl
@[simp] theorem endRequest_savedIe : (endRequest s).savedIe = s.savedIe := rfl
@[simp] theorem endRequest_txn : (endRequest s).txn = s.txn := rfl
@[simp] theorem endRequest_outq : (endRequest s).outq = s.outq := rfl
@[simp] theorem endRequest_chip : (endRequest s).chip = s.chip := rfl
@[simp] theorem endRequest_busLog : (endRequest s).busLog = s.busLog := rfl
@[simp] theorem endRequest_responses : (endRequest s).responses = s.responses := rfl
@[simp] theorem endRequest_host : (endRequest s).host = s.host := rfl
@[simp] theorem endRequest_agenda : (endRequest s).agenda = s.agenda := rfl

/-! ### respond -/

@[simp] theorem respond_cfg (st : Status) (v : BitVec 32) (d : List Byte) : (respond st v d s).cfg = s.cfg := rfl
@[simp] theorem respond_acc (st : Status) (v : BitVec 32) (d : List Byte) : (respond st v d s).acc = s.acc := rfl
@[simp] theorem respond_periodMs (st : Status) (v : BitVec 32) (d : List Byte) : (respond st v d s).periodMs = s.periodMs := rfl
@[simp] theorem respond_tick (st : Status) (v : BitVec 32) (d : List Byte) : (respond st v d s).tick = s.tick := rfl
@[simp] theorem respond_fault (st : Status) (v : BitVec 32) (d : List Byte) : (respond st v d s).fault = s.fault := rfl
@[simp] theorem respond_inited (st : Status) (v : BitVec 32) (d : List Byte) : (respond st v d s).inited = s.inited := rfl
@[simp] theorem respond_irqWired (st : Status) (v : BitVec 32) (d : List Byte) : (respond st v d s).irqWired = s.irqWired := rfl
@[simp] theorem respond_ie (st : Status) (v : BitVec 32) (d : List Byte) : (respond st v d s).ie = s.ie := rfl
@[simp] theorem respond_irqPend (st : Status) (v : BitVec 32) (d : List Byte) : (respond st v d s).irqPend = s.irqPend := rfl
@[simp] theorem respond_ctx (st : Status) (v : BitVec 32) (d : List Byte) : (respond st v d s).ctx = s.ctx := rfl
@[simp] theorem respond_seq (st : Status) (v : BitVec 32) (d : List Byte) : (respond st v d s).seq = .idle := rfl
@[simp] theorem respond_sel (st : Status) (v : BitVec 32) (d : List Byte) : (respond st v d s).sel = s.sel := rfl
@[simp] theorem respond_refused (st : Status) (v : BitVec 32) (d : List Byte) : (respond st v d s).refused = s.refused := rfl
@[simp] theorem respond_req (st : Status) (v : BitVec 32) (d : List Byte) : (respond st v d s).req = none := rfl
@[simp] theorem respond_savedIe (st : Status) (v : BitVec 32) (d : List Byte) : (respond st v d s).savedIe = s.savedIe := rfl
@[simp] theorem respond_txn (st : Status) (v : BitVec 32) (d : List Byte) : (respond st v d s).txn = s.txn := rfl
@[simp] theorem respond_outq (st : Status) (v : BitVec 32) (d : List Byte) : (respond st v d s).outq = s.outq := rfl
@[simp] theorem respond_chip (st : Status) (v : BitVec 32) (d : List Byte) : (respond st v d s).chip = s.chip := rfl
@[simp] theorem respond_busLog (st : Status) (v : BitVec 32) (d : List Byte) : (respond st v d s).busLog = s.busLog := rfl
@[simp] theorem respond_responses (st : Status) (v : BitVec 32) (d : List Byte) : (respond st v d s).responses = s.responses ++ [{ status := st, value := v, dout := d }] := rfl
@[simp] theorem respond_host (st : Status) (v : BitVec 32) (d : List Byte) : (respond st v d s).host = s.host := rfl
@[simp] theorem respond_agenda (st : Status) (v : BitVec 32) (d : List Byte) : (respond st v d s).agenda = s.agenda := rfl

/-! ### refuse -/

@[simp] theorem refuse_cfg (r : Reason) : (refuse r s).cfg = s.cfg := rfl
@[simp] theorem refuse_acc (r : Reason) : (refuse r s).acc = s.acc := rfl
@[simp] theorem refuse_periodMs (r : Reason) : (refuse r s).periodMs = s.periodMs := rfl
@[simp] theorem refuse_tick (r : Reason) : (refuse r s).tick = s.tick := rfl
@[simp] theorem refuse_fault (r : Reason) : (refuse r s).fault = s.fault := rfl
@[simp] theorem refuse_inited (r : Reason) : (refuse r s).inited = s.inited := rfl
@[simp] theorem refuse_irqWired (r : Reason) : (refuse r s).irqWired = s.irqWired := rfl
@[simp] theorem refuse_ie (r : Reason) : (refuse r s).ie = s.ie := rfl
@[simp] theorem refuse_irqPend (r : Reason) : (refuse r s).irqPend = s.irqPend := rfl
@[simp] theorem refuse_ctx (r : Reason) : (refuse r s).ctx = s.ctx := rfl
@[simp] theorem refuse_seq (r : Reason) : (refuse r s).seq = s.seq := rfl
@[simp] theorem refuse_sel (r : Reason) : (refuse r s).sel = s.sel := rfl
@[simp] theorem refuse_refused (r : Reason) : (refuse r s).refused = some { reason := r, word := s.req.map (·.word) } := rfl
@[simp] theorem refuse_req (r : Reason) : (refuse r s).req = none := rfl
@[simp] theorem refuse_savedIe (r : Reason) : (refuse r s).savedIe = s.savedIe := rfl
@[simp] theorem refuse_txn (r : Reason) : (refuse r s).txn = s.txn := rfl
@[simp] theorem refuse_outq (r : Reason) : (refuse r s).outq = s.outq := rfl
@[simp] theorem refuse_chip (r : Reason) : (refuse r s).chip = s.chip := rfl
@[simp] theorem refuse_busLog (r : Reason) : (refuse r s).busLog = s.busLog := rfl
@[simp] theorem refuse_responses (r : Reason) : (refuse r s).responses = s.responses := rfl
@[simp] theorem refuse_host (r : Reason) : (refuse r s).host = s.host := rfl
@[simp] theorem refuse_agenda (r : Reason) : (refuse r s).agenda = s.agenda := rfl

/-! ### edgeArrives -/

@[simp] theorem edgeArrives_cfg : (edgeArrives s).cfg = s.cfg := rfl
@[simp] theorem edgeArrives_acc : (edgeArrives s).acc = s.acc := rfl
@[simp] theorem edgeArrives_periodMs : (edgeArrives s).periodMs = s.periodMs := rfl
@[simp] theorem edgeArrives_tick : (edgeArrives s).tick = s.tick := rfl
@[simp] theorem edgeArrives_fault : (edgeArrives s).fault = s.fault := rfl
@[simp] theorem edgeArrives_inited : (edgeArrives s).inited = s.inited := rfl
@[simp] theorem edgeArrives_irqWired : (edgeArrives s).irqWired = s.irqWired := rfl
@[simp] theorem edgeArrives_ie : (edgeArrives s).ie = s.ie := rfl
@[simp] theorem edgeArrives_irqPend : (edgeArrives s).irqPend = (s.irqPend || s.irqWired) := rfl
@[simp] theorem edgeArrives_ctx : (edgeArrives s).ctx = s.ctx := rfl
@[simp] theorem edgeArrives_seq : (edgeArrives s).seq = s.seq := rfl
@[simp] theorem edgeArrives_sel : (edgeArrives s).sel = s.sel := rfl
@[simp] theorem edgeArrives_refused : (edgeArrives s).refused = s.refused := rfl
@[simp] theorem edgeArrives_req : (edgeArrives s).req = s.req := rfl
@[simp] theorem edgeArrives_savedIe : (edgeArrives s).savedIe = s.savedIe := rfl
@[simp] theorem edgeArrives_txn : (edgeArrives s).txn = s.txn := rfl
@[simp] theorem edgeArrives_outq : (edgeArrives s).outq = s.outq := rfl
@[simp] theorem edgeArrives_chip : (edgeArrives s).chip = s.chip := rfl
@[simp] theorem edgeArrives_busLog : (edgeArrives s).busLog = s.busLog := rfl
@[simp] theorem edgeArrives_responses : (edgeArrives s).responses = s.responses := rfl
@[simp] theorem edgeArrives_host : (edgeArrives s).host = s.host := rfl
@[simp] theorem edgeArrives_agenda : (edgeArrives s).agenda = s.agenda := rfl

/-! ### serviceEntry -/

@[simp] theorem serviceEntry_cfg : (serviceEntry s).cfg = s.cfg := rfl
@[simp] theorem serviceEntry_acc : (serviceEntry s).acc = s.acc := rfl
@[simp] theorem serviceEntry_periodMs : (serviceEntry s).periodMs = s.periodMs := rfl
@[simp] theorem serviceEntry_tick : (serviceEntry s).tick = s.tick := rfl
@[simp] theorem serviceEntry_fault : (serviceEntry s).fault = s.fault := rfl
@[simp] theorem serviceEntry_inited : (serviceEntry s).inited = s.inited := rfl
@[simp] theorem serviceEntry_irqWired : (serviceEntry s).irqWired = s.irqWired := rfl
@[simp] theorem serviceEntry_ie : (serviceEntry s).ie = false := rfl
@[simp] theorem serviceEntry_irqPend : (serviceEntry s).irqPend = false := rfl
@[simp] theorem serviceEntry_ctx : (serviceEntry s).ctx = .isr := rfl
@[simp] theorem serviceEntry_seq : (serviceEntry s).seq = s.seq := rfl
@[simp] theorem serviceEntry_sel : (serviceEntry s).sel = s.sel := rfl
@[simp] theorem serviceEntry_refused : (serviceEntry s).refused = s.refused := rfl
@[simp] theorem serviceEntry_req : (serviceEntry s).req = s.req := rfl
@[simp] theorem serviceEntry_savedIe : (serviceEntry s).savedIe = s.ie :: s.savedIe := rfl
@[simp] theorem serviceEntry_txn : (serviceEntry s).txn = s.txn := rfl
@[simp] theorem serviceEntry_outq : (serviceEntry s).outq = s.outq := rfl
@[simp] theorem serviceEntry_chip : (serviceEntry s).chip = s.chip := rfl
@[simp] theorem serviceEntry_busLog : (serviceEntry s).busLog = s.busLog := rfl
@[simp] theorem serviceEntry_responses : (serviceEntry s).responses = s.responses := rfl
@[simp] theorem serviceEntry_host : (serviceEntry s).host = s.host := rfl
@[simp] theorem serviceEntry_agenda : (serviceEntry s).agenda = s.agenda := rfl

/-! ### serviceReturn -/

@[simp] theorem serviceReturn_cfg : (serviceReturn s).cfg = s.cfg := rfl
@[simp] theorem serviceReturn_acc : (serviceReturn s).acc = s.acc := rfl
@[simp] theorem serviceReturn_periodMs : (serviceReturn s).periodMs = s.periodMs := rfl
@[simp] theorem serviceReturn_tick : (serviceReturn s).tick = s.tick := rfl
@[simp] theorem serviceReturn_fault : (serviceReturn s).fault = s.fault := rfl
@[simp] theorem serviceReturn_inited : (serviceReturn s).inited = s.inited := rfl
@[simp] theorem serviceReturn_irqWired : (serviceReturn s).irqWired = s.irqWired := rfl
@[simp] theorem serviceReturn_ie : (serviceReturn s).ie = s.savedIe.headD s.ie := rfl
@[simp] theorem serviceReturn_irqPend : (serviceReturn s).irqPend = s.irqPend := rfl
@[simp] theorem serviceReturn_ctx : (serviceReturn s).ctx = .main := rfl
@[simp] theorem serviceReturn_seq : (serviceReturn s).seq = s.seq := rfl
@[simp] theorem serviceReturn_sel : (serviceReturn s).sel = s.sel := rfl
@[simp] theorem serviceReturn_refused : (serviceReturn s).refused = s.refused := rfl
@[simp] theorem serviceReturn_req : (serviceReturn s).req = s.req := rfl
@[simp] theorem serviceReturn_savedIe : (serviceReturn s).savedIe = s.savedIe.tail := rfl
@[simp] theorem serviceReturn_txn : (serviceReturn s).txn = s.txn := rfl
@[simp] theorem serviceReturn_outq : (serviceReturn s).outq = s.outq := rfl
@[simp] theorem serviceReturn_chip : (serviceReturn s).chip = s.chip := rfl
@[simp] theorem serviceReturn_busLog : (serviceReturn s).busLog = s.busLog := rfl
@[simp] theorem serviceReturn_responses : (serviceReturn s).responses = s.responses := rfl
@[simp] theorem serviceReturn_host : (serviceReturn s).host = s.host := rfl
@[simp] theorem serviceReturn_agenda : (serviceReturn s).agenda = s.agenda := rfl

/-! ### bindSecond -/

@[simp] theorem bindSecond_cfg : (bindSecond s).cfg = s.cfg := rfl
@[simp] theorem bindSecond_acc : (bindSecond s).acc = s.acc := rfl
@[simp] theorem bindSecond_periodMs : (bindSecond s).periodMs = s.periodMs := rfl
@[simp] theorem bindSecond_tick : (bindSecond s).tick = s.tick := rfl
@[simp] theorem bindSecond_fault : (bindSecond s).fault = s.fault := rfl
@[simp] theorem bindSecond_inited : (bindSecond s).inited = s.inited := rfl
@[simp] theorem bindSecond_irqWired : (bindSecond s).irqWired = s.irqWired := rfl
@[simp] theorem bindSecond_ie : (bindSecond s).ie = s.ie := rfl
@[simp] theorem bindSecond_irqPend : (bindSecond s).irqPend = s.irqPend := rfl
@[simp] theorem bindSecond_ctx : (bindSecond s).ctx = s.ctx := rfl
@[simp] theorem bindSecond_seq : (bindSecond s).seq = s.seq := rfl
@[simp] theorem bindSecond_sel : (bindSecond s).sel = s.sel := rfl
@[simp] theorem bindSecond_refused : (bindSecond s).refused = some { reason := .secondInstance, word := none } := rfl
@[simp] theorem bindSecond_req : (bindSecond s).req = s.req := rfl
@[simp] theorem bindSecond_savedIe : (bindSecond s).savedIe = s.savedIe := rfl
@[simp] theorem bindSecond_txn : (bindSecond s).txn = s.txn := rfl
@[simp] theorem bindSecond_outq : (bindSecond s).outq = s.outq := rfl
@[simp] theorem bindSecond_chip : (bindSecond s).chip = s.chip := rfl
@[simp] theorem bindSecond_busLog : (bindSecond s).busLog = s.busLog := rfl
@[simp] theorem bindSecond_responses : (bindSecond s).responses = s.responses := rfl
@[simp] theorem bindSecond_host : (bindSecond s).host = s.host := rfl
@[simp] theorem bindSecond_agenda : (bindSecond s).agenda = s.agenda := rfl

end Sys2Proof.Machine
end

