-- ==== Sys2Proof/Laws/Bus.lean ====
section
/-! SUPPORT. What one transaction does, in closed form: the bus primitives change the peripheral, BUSLOG and nothing
else. Cite these, and do not unfold the exchange of bytes. -/

namespace Sys2Proof.Machine

/-- The data phase seen from the peripheral: the bytes it sends for the bytes it is sent, from register `ptr` on. -/
def Peripheral.exchange (mode : BusMode) : Nat → List Byte → Peripheral → List Byte × Peripheral
  | _, [], p => ([], p)
  | ptr, b :: bs, p =>
    let got := p.receive (match mode with | .read => some ptr | .write => none)
    let rest := Peripheral.exchange mode (ptr + 1) bs (got.2.store mode ptr b)
    (got.1 :: rest.1, rest.2)

/-- The peripheral after the command byte's exchange. -/
def Peripheral.addressed (p : Peripheral) : Peripheral := (p.receive none).2

/-- The bytes received in a whole transaction: the command byte's, then the data bytes'. -/
def Peripheral.sentBack (mode : BusMode) (addr : Byte) (outs : List Byte) (p : Peripheral) : List Byte :=
  (p.receive none).1 :: (Peripheral.exchange mode addr.toNat outs p.addressed).1

/-- The peripheral after a whole transaction. -/
def Peripheral.after (mode : BusMode) (addr : Byte) (outs : List Byte) (p : Peripheral) : Peripheral :=
  (Peripheral.exchange mode addr.toNat outs p.addressed).2

/-- Every address below 2 ^ ADDR_WIDTH goes out whole. -/
theorem busCommand_addrField (mask : Byte) {addr : Byte} (h : addr.toNat < 2 ^ addrWidth) :
    busCommand mask (addrField addr) = mask ||| addr := by
  have whole : (addrField addr).setWidth 8 = addr := by
    apply BitVec.eq_of_toNat_eq
    rw [addrField, BitVec.toNat_setWidth, BitVec.toNat_setWidth, Nat.mod_eq_of_lt h, Nat.mod_eq_of_lt addr.isLt]
  rw [busCommand, whole]

/-- The command byte of a legal address, as R113 writes it. -/
theorem commandByte_eq (cfg : Params) (mode : BusMode) {addr : Byte} (h : addr.toNat < 2 ^ addrWidth) :
    commandByte cfg mode addr = (match mode with | .read => cfg.readMask | .write => cfg.writeMask) ||| addr := by
  cases mode <;> exact busCommand_addrField _ h

/-- The event a transaction appends to BUSLOG (R163). -/
def eventOf (mode : BusMode) (addr : Byte) (outs : List Byte) (s : State) : BusEvent :=
  { ctx := s.ctx, mode := mode, addr := addr, sent := commandByte s.cfg mode addr :: outs,
    received := Peripheral.sentBack mode addr outs s.chip }

/-- Receiving a byte leaves the registers as they are. -/
@[simp] theorem Peripheral.receive_preg (p : Peripheral) (reg : Option Nat) : (p.receive reg).2.preg = p.preg := by
  unfold Peripheral.receive
  split <;> rfl

@[simp] theorem Peripheral.addressed_preg (p : Peripheral) : p.addressed.preg = p.preg := Peripheral.receive_preg p none

@[simp] theorem Peripheral.store_read (p : Peripheral) (a : Nat) (b : Byte) : p.store .read a b = p := rfl

@[simp] theorem Peripheral.store_write (p : Peripheral) (a : Nat) (b : Byte) :
    p.store .write a b = { p with preg := Memory.write p.preg a b } := rfl

/-- One byte comes back for each byte sent. -/
@[simp] theorem Peripheral.exchange_length (mode : BusMode) (outs : List Byte) :
    ∀ (ptr : Nat) (p : Peripheral), (Peripheral.exchange mode ptr outs p).1.length = outs.length := by
  induction outs with
  | nil => intros; rfl
  | cons b bs ih => intro ptr p; simp [Peripheral.exchange, ih]

@[simp] theorem Peripheral.sentBack_length (mode : BusMode) (addr : Byte) (outs : List Byte) (p : Peripheral) :
    (Peripheral.sentBack mode addr outs p).length = outs.length + 1 := by
  simp [Peripheral.sentBack]

/-- A reading transaction writes no register. -/
@[simp] theorem Peripheral.exchange_read_preg (outs : List Byte) :
    ∀ (ptr : Nat) (p : Peripheral), (Peripheral.exchange .read ptr outs p).2.preg = p.preg := by
  induction outs with
  | nil => intros; rfl
  | cons b bs ih => intro ptr p; simp [Peripheral.exchange, ih]

@[simp] theorem Peripheral.after_read_preg (addr : Byte) (outs : List Byte) (p : Peripheral) :
    (Peripheral.after .read addr outs p).preg = p.preg := by
  simp [Peripheral.after]

/-- A writing transaction within the map keeps the registers' canonical form. -/
theorem Peripheral.exchange_wf (mode : BusMode) (outs : List Byte) :
    ∀ (ptr : Nat) (p : Peripheral), Memory.wf p.preg → ptr + outs.length ≤ lastRegister + 1 →
      Memory.wf (Peripheral.exchange mode ptr outs p).2.preg := by
  induction outs with
  | nil => intro _ _ h _; exact h
  | cons b bs ih =>
    intro ptr p h hp
    simp only [List.length_cons] at hp
    refine ih _ _ ?_ (by omega)
    cases mode with
    | read => simpa using h
    | write => simpa using Memory.write_wf (by simpa using h) (by omega) b

theorem Peripheral.after_wf {mode : BusMode} {addr : Byte} {outs : List Byte} {p : Peripheral}
    (h : Memory.wf p.preg) (hp : addr.toNat + outs.length ≤ lastRegister + 1) :
    Memory.wf (Peripheral.after mode addr outs p).preg :=
  Peripheral.exchange_wf mode outs _ _ (by simpa using h) hp

/-- Where the bytes of a write land (R83, R165): byte k in register `ptr + k`, every other register as before. -/
theorem Peripheral.exchange_write_read (outs : List Byte) :
    ∀ (ptr : Nat) (p : Peripheral) (a : Nat),
      Memory.read (Peripheral.exchange .write ptr outs p).2.preg a =
        if ptr ≤ a ∧ a < ptr + outs.length then outs[a - ptr]? else Memory.read p.preg a := by
  induction outs with
  | nil => intro ptr p a; rw [if_neg (by simp)]; rfl
  | cons b bs ih =>
    intro ptr p a
    simp only [Peripheral.exchange, Peripheral.store_write, List.length_cons]
    rw [ih]
    simp only [Peripheral.receive_preg]
    rw [Memory.read_write]
    by_cases h1 : a = ptr
    · subst h1
      rw [if_neg (by omega), if_pos rfl, if_pos (by omega)]
      simp
    · rw [if_neg h1]
      by_cases h2 : ptr + 1 ≤ a ∧ a < ptr + 1 + bs.length
      · rw [if_pos h2, if_pos (by omega)]
        obtain ⟨n, rfl⟩ : ∃ n, a = ptr + 1 + n := ⟨a - (ptr + 1), by omega⟩
        have e1 : ptr + 1 + n - (ptr + 1) = n := by omega
        have e2 : ptr + 1 + n - ptr = n + 1 := by omega
        rw [e1, e2, List.getElem?_cons_succ]
      · rw [if_neg h2, if_neg (by omega)]

theorem Peripheral.after_write_read (addr : Byte) (outs : List Byte) (p : Peripheral) (a : Nat) :
    Memory.read (Peripheral.after .write addr outs p).preg a =
      if addr.toNat ≤ a ∧ a < addr.toNat + outs.length then outs[a - addr.toNat]? else Memory.read p.preg a := by
  simpa [Peripheral.after] using Peripheral.exchange_write_read outs addr.toNat p.addressed a

/-- The data phase from a transaction under way. -/
theorem xferAll_eq (outs : List Byte) :
    ∀ (s : State) (t : Txn), s.txn = some t →
      xferAll outs s =
        { s with
          chip := (Peripheral.exchange t.mode t.ptr outs s.chip).2
          txn := some { t with ptr := t.ptr + outs.length, sent := t.sent ++ outs,
                               received := t.received ++ (Peripheral.exchange t.mode t.ptr outs s.chip).1 } } := by
  induction outs with
  | nil => intro s t h; cases s; simp_all [xferAll, Peripheral.exchange]
  | cons b bs ih =>
    intro s t h
    have hx : xferData b s =
        { s with
          chip := (s.chip.receive (answerReg t)).2.store t.mode t.ptr b
          txn := some { t with ptr := t.ptr + 1, sent := t.sent ++ [b],
                               received := t.received ++ [(s.chip.receive (answerReg t)).1] } } := by
      simp [xferData, h]
    rw [xferAll, hx, ih _ _ rfl]
    cases hm : t.mode <;>
      simp [Peripheral.exchange, answerReg, hm, Nat.add_assoc, Nat.add_comm 1]

/-- A transaction's frame, from select to before deselect. -/
theorem openFrame_eq (mode : BusMode) (addr : Byte) (outs : List Byte) (s : State) :
    openFrame mode addr outs s =
      { s with
        sel := true
        chip := Peripheral.after mode addr outs s.chip
        txn := some { mode := mode, addr := addr, ptr := addr.toNat + outs.length,
                      sent := commandByte s.cfg mode addr :: outs,
                      received := Peripheral.sentBack mode addr outs s.chip } } := by
  rw [openFrame, xferAll_eq outs _ _ rfl]
  rfl

/-- A critical section around nothing changes nothing (R161). -/
@[simp] theorem csExit_csEnter (s : State) : csExit (csEnter s) = s := rfl

/-- Everything `BusWrite` does (R165): one event, the peripheral, and no other field. -/
theorem busWrite_eq (addr : Byte) (bytes : List Byte) (s : State) :
    busWrite addr bytes s =
      { s with
        sel := false
        txn := none
        chip := Peripheral.after .write addr bytes s.chip
        busLog := s.busLog ++ [eventOf .write addr bytes s] } := by
  rw [busWrite, openFrame_eq]
  rfl

/-- Everything `BusRead` does (R164). -/
theorem busRead_eq (addr : Byte) (n : Nat) (s : State) :
    busRead addr n s =
      ((Peripheral.exchange .read addr.toNat (List.replicate n 0x00) s.chip.addressed).1,
       { s with
         sel := false
         txn := none
         chip := Peripheral.after .read addr (List.replicate n 0x00) s.chip
         busLog := s.busLog ++ [eventOf .read addr (List.replicate n 0x00) s] }) := by
  simp only [busRead, openFrame_eq]
  rfl

/-- As many data bytes come back as were asked for. -/
@[simp] theorem busRead_length (addr : Byte) (n : Nat) (s : State) : (busRead addr n s).1.length = n := by
  simp [busRead_eq]

end Sys2Proof.Machine
end

