-- ==== Sys2Proof/Laws/Frame.lean ====
section
/-! SUPPORT. The frame of every shared operation, field by field: what the bus primitives, the timer bodies and the
interrupt service leave as it was, and what they change. -/

namespace Sys2Proof.Machine

variable (s : State)

/-! ### BusWrite and BusRead -/

@[simp] theorem busWrite_cfg (a : Byte) (bs : List Byte) : (busWrite a bs s).cfg = s.cfg := by rw [busWrite_eq]
@[simp] theorem busWrite_acc (a : Byte) (bs : List Byte) : (busWrite a bs s).acc = s.acc := by rw [busWrite_eq]
@[simp] theorem busWrite_periodMs (a : Byte) (bs : List Byte) : (busWrite a bs s).periodMs = s.periodMs := by rw [busWrite_eq]
@[simp] theorem busWrite_tick (a : Byte) (bs : List Byte) : (busWrite a bs s).tick = s.tick := by rw [busWrite_eq]
@[simp] theorem busWrite_fault (a : Byte) (bs : List Byte) : (busWrite a bs s).fault = s.fault := by rw [busWrite_eq]
@[simp] theorem busWrite_inited (a : Byte) (bs : List Byte) : (busWrite a bs s).inited = s.inited := by rw [busWrite_eq]
@[simp] theorem busWrite_irqWired (a : Byte) (bs : List Byte) : (busWrite a bs s).irqWired = s.irqWired := by rw [busWrite_eq]
@[simp] theorem busWrite_ie (a : Byte) (bs : List Byte) : (busWrite a bs s).ie = s.ie := by rw [busWrite_eq]
@[simp] theorem busWrite_irqPend (a : Byte) (bs : List Byte) : (busWrite a bs s).irqPend = s.irqPend := by rw [busWrite_eq]
@[simp] theorem busWrite_ctx (a : Byte) (bs : List Byte) : (busWrite a bs s).ctx = s.ctx := by rw [busWrite_eq]
@[simp] theorem busWrite_seq (a : Byte) (bs : List Byte) : (busWrite a bs s).seq = s.seq := by rw [busWrite_eq]
@[simp] theorem busWrite_refused (a : Byte) (bs : List Byte) : (busWrite a bs s).refused = s.refused := by rw [busWrite_eq]
@[simp] theorem busWrite_req (a : Byte) (bs : List Byte) : (busWrite a bs s).req = s.req := by rw [busWrite_eq]
@[simp] theorem busWrite_savedIe (a : Byte) (bs : List Byte) : (busWrite a bs s).savedIe = s.savedIe := by rw [busWrite_eq]
@[simp] theorem busWrite_outq (a : Byte) (bs : List Byte) : (busWrite a bs s).outq = s.outq := by rw [busWrite_eq]
@[simp] theorem busWrite_responses (a : Byte) (bs : List Byte) : (busWrite a bs s).responses = s.responses := by rw [busWrite_eq]
@[simp] theorem busWrite_host (a : Byte) (bs : List Byte) : (busWrite a bs s).host = s.host := by rw [busWrite_eq]
@[simp] theorem busWrite_agenda (a : Byte) (bs : List Byte) : (busWrite a bs s).agenda = s.agenda := by rw [busWrite_eq]
@[simp] theorem busWrite_sel (a : Byte) (bs : List Byte) : (busWrite a bs s).sel = false := by rw [busWrite_eq]
@[simp] theorem busWrite_txn (a : Byte) (bs : List Byte) : (busWrite a bs s).txn = none := by rw [busWrite_eq]
@[simp] theorem busWrite_chip (a : Byte) (bs : List Byte) :
    (busWrite a bs s).chip = Peripheral.after .write a bs s.chip := by rw [busWrite_eq]
@[simp] theorem busWrite_busLog (a : Byte) (bs : List Byte) :
    (busWrite a bs s).busLog = s.busLog ++ [eventOf .write a bs s] := by rw [busWrite_eq]
@[simp] theorem busRead_cfg (a : Byte) (n : Nat) : (busRead a n s).2.cfg = s.cfg := by rw [busRead_eq]
@[simp] theorem busRead_acc (a : Byte) (n : Nat) : (busRead a n s).2.acc = s.acc := by rw [busRead_eq]
@[simp] theorem busRead_periodMs (a : Byte) (n : Nat) : (busRead a n s).2.periodMs = s.periodMs := by rw [busRead_eq]
@[simp] theorem busRead_tick (a : Byte) (n : Nat) : (busRead a n s).2.tick = s.tick := by rw [busRead_eq]
@[simp] theorem busRead_fault (a : Byte) (n : Nat) : (busRead a n s).2.fault = s.fault := by rw [busRead_eq]
@[simp] theorem busRead_inited (a : Byte) (n : Nat) : (busRead a n s).2.inited = s.inited := by rw [busRead_eq]
@[simp] theorem busRead_irqWired (a : Byte) (n : Nat) : (busRead a n s).2.irqWired = s.irqWired := by rw [busRead_eq]
@[simp] theorem busRead_ie (a : Byte) (n : Nat) : (busRead a n s).2.ie = s.ie := by rw [busRead_eq]
@[simp] theorem busRead_irqPend (a : Byte) (n : Nat) : (busRead a n s).2.irqPend = s.irqPend := by rw [busRead_eq]
@[simp] theorem busRead_ctx (a : Byte) (n : Nat) : (busRead a n s).2.ctx = s.ctx := by rw [busRead_eq]
@[simp] theorem busRead_seq (a : Byte) (n : Nat) : (busRead a n s).2.seq = s.seq := by rw [busRead_eq]
@[simp] theorem busRead_refused (a : Byte) (n : Nat) : (busRead a n s).2.refused = s.refused := by rw [busRead_eq]
@[simp] theorem busRead_req (a : Byte) (n : Nat) : (busRead a n s).2.req = s.req := by rw [busRead_eq]
@[simp] theorem busRead_savedIe (a : Byte) (n : Nat) : (busRead a n s).2.savedIe = s.savedIe := by rw [busRead_eq]
@[simp] theorem busRead_outq (a : Byte) (n : Nat) : (busRead a n s).2.outq = s.outq := by rw [busRead_eq]
@[simp] theorem busRead_responses (a : Byte) (n : Nat) : (busRead a n s).2.responses = s.responses := by rw [busRead_eq]
@[simp] theorem busRead_host (a : Byte) (n : Nat) : (busRead a n s).2.host = s.host := by rw [busRead_eq]
@[simp] theorem busRead_agenda (a : Byte) (n : Nat) : (busRead a n s).2.agenda = s.agenda := by rw [busRead_eq]
@[simp] theorem busRead_sel (a : Byte) (n : Nat) : (busRead a n s).2.sel = false := by rw [busRead_eq]
@[simp] theorem busRead_txn (a : Byte) (n : Nat) : (busRead a n s).2.txn = none := by rw [busRead_eq]
@[simp] theorem busRead_chip (a : Byte) (n : Nat) :
    (busRead a n s).2.chip = Peripheral.after .read a (List.replicate n 0x00) s.chip := by rw [busRead_eq]
@[simp] theorem busRead_busLog (a : Byte) (n : Nat) :
    (busRead a n s).2.busLog = s.busLog ++ [eventOf .read a (List.replicate n 0x00) s] := by rw [busRead_eq]

/-! ### The timer bodies and the service -/

/-- CONFIGURE_BODY in closed form (R192): PERIOD_MS, three writing transactions, IE as it was. -/
theorem configureBody_eq (k : Byte) :
    configureBody k s =
      { s with
        sel := false
        txn := none
        periodMs := periodMsOf s.cfg.periodFn k
        chip := Peripheral.after .write 0x0E [timerCfgRun s.cfg]
          (Peripheral.after .write 0x0F [k] (Peripheral.after .write 0x0E [timerCfgStop s.cfg] s.chip))
        busLog := s.busLog ++
          [eventOf .write 0x0E [timerCfgStop s.cfg] s,
           eventOf .write 0x0F [k] { s with chip := Peripheral.after .write 0x0E [timerCfgStop s.cfg] s.chip },
           eventOf .write 0x0E [timerCfgRun s.cfg]
            { s with
              chip := Peripheral.after .write 0x0F [k]
                (Peripheral.after .write 0x0E [timerCfgStop s.cfg] s.chip) }] } := by
  simp [configureBody, busWrite_eq, csEnter, csExit, restoreIe, eventOf]

/-- STOP_BODY in closed form (R193): PERIOD_MS <- 0 and one writing transaction. -/
theorem stopBody_eq :
    stopBody s =
      { s with
        sel := false
        txn := none
        periodMs := 0
        chip := Peripheral.after .write 0x0E [timerCfgStop s.cfg] s.chip
        busLog := s.busLog ++ [eventOf .write 0x0E [timerCfgStop s.cfg] s] } := by
  simp [stopBody, busWrite_eq, csEnter, csExit, restoreIe, eventOf]

/-- CONSUME's effect in closed form (R195). -/
theorem clearTick_eq : clearTick s = { s with tick := false } := rfl

/-- The service in closed form (R266, R197, R267): ACC, TICK, the latch and the acknowledge; IE as it was. -/
theorem runService_eq :
    runService s =
      { s with
        acc := s.acc + s.periodMs.setWidth 32
        tick := true
        irqPend := false
        ctx := .main
        sel := false
        txn := none
        chip := Peripheral.after .write 0x01 [s.cfg.ctrl2Tie] s.chip
        busLog := s.busLog ++ [eventOf .write 0x01 [s.cfg.ctrl2Tie] { s with ctx := .isr }] } := by
  simp [runService, irqBody, busWrite_eq, serviceEntry, serviceReturn, restoreIe, eventOf]

/-! ### Refuse or run -/

/-- What `attempt` answers. -/
theorem attempt_next {ds : List (Option Reason)} {run : State → State} {s t : State}
    (h : attempt ds run s = .next t) :
    (∃ r, firstDefect ds = some r ∧ t = refuse r s) ∨ (firstDefect ds = none ∧ t = run s) := by
  unfold attempt at h
  split at h
  · rename_i r hr; injection h with h; exact .inl ⟨r, hr, h.symm⟩
  · rename_i hr; injection h with h; exact .inr ⟨hr, h.symm⟩

/-- What `attemptBus` answers. -/
theorem attemptBus_next {ds : List (Option Reason)} {run : State → State} {s t : State}
    (h : attemptBus ds run s = .next t) :
    (∃ r, firstDefect ds = some r ∧ t = refuse r s) ∨
      (firstDefect ds = none ∧ s.sel = false ∧ t = run s) := by
  unfold attemptBus at h
  split at h
  · rename_i r hr; injection h with h; exact .inl ⟨r, hr, h.symm⟩
  · rename_i hr
    split at h
    · cases h
    · rename_i hs; injection h with h; exact .inr ⟨hr, by simpa using hs, h.symm⟩

@[simp] theorem firstDefect_nil : firstDefect [] = none := rfl
@[simp] theorem firstDefect_some (r : Reason) (ds : List (Option Reason)) : firstDefect (some r :: ds) = some r := rfl
@[simp] theorem firstDefect_none (ds : List (Option Reason)) : firstDefect (none :: ds) = firstDefect ds := rfl

/-- A list of checks has no defect exactly when no check has one. -/
theorem firstDefect_eq_none (ds : List (Option Reason)) : firstDefect ds = none ↔ ∀ d ∈ ds, d = none := by
  induction ds with
  | nil => simp
  | cons d ds ih => cases d <;> simp [ih]

/-- DIN has the operation's length (R107). -/
theorem dinDefect_eq_none (i : Instr) (s : State) : dinDefect i s = none ↔ (dinOf s).length = dinLength i := by
  simp [dinDefect]

/-- An address is legal (R79). -/
theorem addrDefect_eq_none (a : Byte) : addrDefect a = none ↔ a.toNat ≤ lastRegister := by simp [addrDefect]

/-- A burst is legal (R168, R169). -/
theorem burstDefect_eq_none (a n : Byte) :
    burstDefect a n = none ↔ n.toNat ≠ 0 ∧ a.toNat + n.toNat ≤ lastRegister + 1 := by
  unfold burstDefect
  split
  · simp_all
  · split
    · simp; omega
    · simp; omega

/-- The driver has been set up (R221). -/
theorem initDefect_eq_none (s : State) : initDefect s = none ↔ s.inited = true := by simp [initDefect]

end Sys2Proof.Machine
end

