-- ==== Sys2Proof/Laws/Word.lean ====
section
/-! SUPPORT. The fields of a request word (R100-R105): what each is of a word put together from fields, and that a word
is its fields put together. -/

namespace Sys2Proof

/-- The fields of the word {T, 0, B, A, OP}. -/
theorem word_fields (op a b : Byte) (t : BitVec 32) :
    opOf (t ++ 0#8 ++ b ++ a ++ op) = op ∧ aOf (t ++ 0#8 ++ b ++ a ++ op) = a ∧ bOf (t ++ 0#8 ++ b ++ a ++ op) = b ∧
      rsvOf (t ++ 0#8 ++ b ++ a ++ op) = 0 ∧ tOf (t ++ 0#8 ++ b ++ a ++ op) = t := by
  refine ⟨?_, ?_, ?_, ?_, ?_⟩ <;> ext i hi <;>
    simp only [opOf, aOf, bOf, rsvOf, tOf, BitVec.getElem_extractLsb', BitVec.getLsbD_append]
  · simp [hi]
  · simp [show ¬ 8 + i < 8 by omega, hi]
  · simp [show ¬ 16 + i < 8 by omega, show ¬ 16 + i - 8 < 8 by omega, hi, show 16 + i - 8 - 8 = i by omega]
  · simp [show ¬ 24 + i < 8 by omega, show ¬ 24 + i - 8 < 8 by omega, show ¬ 24 + i - 8 - 8 < 8 by omega, hi,
      show 24 + i - 8 - 8 - 8 = i by omega]
  · simp [show ¬ 32 + i < 8 by omega, show ¬ 32 + i - 8 < 8 by omega, show ¬ 32 + i - 8 - 8 < 8 by omega,
      show ¬ 32 + i - 8 - 8 - 8 < 8 by omega, show 32 + i - 8 - 8 - 8 - 8 = i by omega]
    exact BitVec.getLsbD_eq_getElem hi

/-- A word is {T, RSV, B, A, OP}: the five fields cover all 64 bits (R100). -/
theorem word_split (w : ReqWord) : w = tOf w ++ rsvOf w ++ bOf w ++ aOf w ++ opOf w := by
  ext i hi
  simp only [opOf, aOf, bOf, rsvOf, tOf, ← BitVec.getLsbD_eq_getElem, BitVec.getLsbD_append,
    BitVec.getLsbD_extractLsb']
  by_cases h1 : i < 8
  · simp [h1]
  · by_cases h2 : i < 16
    · simp [h1, show i - 8 < 8 by omega, show 8 + (i - 8) = i by omega]
    · by_cases h3 : i < 24
      · simp [h1, show ¬ i - 8 < 8 by omega, show i - 8 - 8 < 8 by omega, show 16 + (i - 8 - 8) = i by omega]
      · by_cases h4 : i < 32
        · simp [h1, show ¬ i - 8 < 8 by omega, show ¬ i - 8 - 8 < 8 by omega, show i - 8 - 8 - 8 < 8 by omega,
            show 24 + (i - 8 - 8 - 8) = i by omega]
        · simp [h1, show ¬ i - 8 < 8 by omega, show ¬ i - 8 - 8 < 8 by omega, show ¬ i - 8 - 8 - 8 < 8 by omega,
            show i - 8 - 8 - 8 - 8 < 32 by omega, show 32 + (i - 8 - 8 - 8 - 8) = i by omega]

/-- RSV of every word the encoder makes is 0 (R104). -/
theorem mkReq_rsv {op a b : Byte} {t : BitVec 32} {w : ReqWord} (h : mkReq op a b t = .req w) : rsvOf w = 0 := by
  rw [mkReq] at h
  injection h with h
  rw [← h]
  exact (word_fields op a b t).2.2.2.1

end Sys2Proof
end

