-- ==== Sys2Proof/Laws/PerInstr.lean ====
section
/-! SUPPORT. Statements made for every operation, one lemma per constructor. -/

namespace Sys2Proof.Laws.ReservedZero

open Sys2Proof

/-- The request word of an operation has RSV = 0 (R104); a bus command byte is no request word. -/
def Statement (i : Instr) : Prop := ∀ w : ReqWord, encodeInstr i = .req w → rsvOf w = 0

theorem bcd2dec (b : Byte) : Statement (.bcd2dec b) := fun _ h => mkReq_rsv h
theorem dec2bcd (d : Byte) : Statement (.dec2bcd d) := fun _ h => mkReq_rsv h
theorem encode (t : BitVec 32) : Statement (.encode t) := fun _ h => mkReq_rsv h
theorem decode : Statement .decode := fun _ h => mkReq_rsv h
theorem format : Statement .format := fun _ h => mkReq_rsv h
theorem rdreg (addr : Byte) : Statement (.rdreg addr) := fun _ h => mkReq_rsv h
theorem wrreg (addr v : Byte) : Statement (.wrreg addr v) := fun _ h => mkReq_rsv h
theorem brd (first count : Byte) : Statement (.brd first count) := fun _ h => mkReq_rsv h
theorem bwr (first count : Byte) : Statement (.bwr first count) := fun _ h => mkReq_rsv h
theorem setper (k : Byte) : Statement (.setper k) := fun _ h => mkReq_rsv h
theorem stop : Statement .stop := fun _ h => mkReq_rsv h
theorem getper : Statement .getper := fun _ h => mkReq_rsv h
theorem consume : Statement .consume := fun _ h => mkReq_rsv h
theorem getms : Statement .getms := fun _ h => mkReq_rsv h
theorem setup : Statement .setup := fun _ h => mkReq_rsv h
theorem gettime : Statement .gettime := fun _ h => mkReq_rsv h
theorem getts : Statement .getts := fun _ h => mkReq_rsv h
theorem settime : Statement .settime := fun _ h => mkReq_rsv h
theorem status : Statement .status := fun _ h => mkReq_rsv h
theorem verify : Statement .verify := fun _ h => mkReq_rsv h
theorem cmd (kind len : Byte) : Statement (.cmd kind len) := fun _ h => mkReq_rsv h
theorem irqsvc : Statement .irqsvc := fun _ h => mkReq_rsv h
theorem busWrite (addr : BitVec 4) : Statement (.busWrite addr) := fun _ h => by cases h
theorem busRead (addr : BitVec 4) : Statement (.busRead addr) := fun _ h => by cases h

end Sys2Proof.Laws.ReservedZero
end

