-- ==== Sys2Proof/Laws/Step.lean ====
section
/-! SUPPORT. Whose move a step is, and which micro-step the HOST's move runs: one equation for each, so that no proof
unfolds the step. Then a transaction in the vocabulary of the statements. -/

namespace Sys2Proof.Machine

open Sys2Proof.Safety

variable {s : State}

/-! ### The agenda -/

@[simp] theorem dropEvent_agenda (s : State) : (dropEvent s).agenda = s.agenda.tail := rfl
@[simp] theorem dropEvent_cfg (s : State) : (dropEvent s).cfg = s.cfg := rfl
@[simp] theorem dropEvent_acc (s : State) : (dropEvent s).acc = s.acc := rfl
@[simp] theorem dropEvent_periodMs (s : State) : (dropEvent s).periodMs = s.periodMs := rfl
@[simp] theorem dropEvent_tick (s : State) : (dropEvent s).tick = s.tick := rfl
@[simp] theorem dropEvent_fault (s : State) : (dropEvent s).fault = s.fault := rfl
@[simp] theorem dropEvent_inited (s : State) : (dropEvent s).inited = s.inited := rfl
@[simp] theorem dropEvent_irqWired (s : State) : (dropEvent s).irqWired = s.irqWired := rfl
@[simp] theorem dropEvent_ie (s : State) : (dropEvent s).ie = s.ie := rfl
@[simp] theorem dropEvent_irqPend (s : State) : (dropEvent s).irqPend = s.irqPend := rfl
@[simp] theorem dropEvent_ctx (s : State) : (dropEvent s).ctx = s.ctx := rfl
@[simp] theorem dropEvent_seq (s : State) : (dropEvent s).seq = s.seq := rfl
@[simp] theorem dropEvent_sel (s : State) : (dropEvent s).sel = s.sel := rfl
@[simp] theorem dropEvent_refused (s : State) : (dropEvent s).refused = s.refused := rfl
@[simp] theorem dropEvent_req (s : State) : (dropEvent s).req = s.req := rfl
@[simp] theorem dropEvent_savedIe (s : State) : (dropEvent s).savedIe = s.savedIe := rfl
@[simp] theorem dropEvent_txn (s : State) : (dropEvent s).txn = s.txn := rfl
@[simp] theorem dropEvent_outq (s : State) : (dropEvent s).outq = s.outq := rfl
@[simp] theorem dropEvent_chip (s : State) : (dropEvent s).chip = s.chip := rfl
@[simp] theorem dropEvent_busLog (s : State) : (dropEvent s).busLog = s.busLog := rfl
@[simp] theorem dropEvent_responses (s : State) : (dropEvent s).responses = s.responses := rfl
@[simp] theorem dropEvent_host (s : State) : (dropEvent s).host = s.host := rfl

/-- With nothing listed the HOST moves (log 2). -/
theorem nextEvent_nil (h : s.agenda = []) : nextEvent s = .host := by simp [nextEvent, h]

/-- The first entry of the agenda comes next. -/
theorem nextEvent_cons {e : Event} {rest : List Event} (h : s.agenda = e :: rest) : nextEvent s = e := by
  simp [nextEvent, h]

/-! ### Whose move it is -/

/-- Inside a frame the frame goes on (R163). -/
theorem step_frame (h : s.sel = true) : step s = frameMove s := by simp [step, nextMove, h]

/-- An edge arrives (R264). -/
theorem step_edge (h : s.sel = false) (he : nextEvent s = .edge) : step s = .next (edgeArrives (dropEvent s)) := by
  simp [step, nextMove, h, he]

/-- A second instance binds to the line (R8). -/
theorem step_bindSecond (h : s.sel = false) (he : nextEvent s = .bindSecond) :
    step s = .next (bindSecond (dropEvent s)) := by simp [step, nextMove, h, he]

/-- Power returns (R300). -/
theorem step_powerOn (h : s.sel = false) (he : nextEvent s = .powerOn) : step s = .next (powerOn (dropEvent s)) := by
  simp [step, nextMove, h, he]

/-- WAIT's turn with no edge to service (R228). -/
theorem step_wait (h : s.sel = false) (he : nextEvent s = .wait) (hs : serviceable s = false) :
    step s = .next (dropEvent s) := by simp [step, nextMove, h, he, hs]

/-- A serviceable edge goes before the HOST and before WAIT (R268). -/
theorem step_service (he : nextEvent s = .host ∨ nextEvent s = .wait) (hs : serviceable s = true) :
    step s = .next (runService s) := by
  have hsel : s.sel = false := by simp [serviceable] at hs; exact hs.2
  rcases he with he | he <;> simp [step, nextMove, hsel, he, hs, exec, execIrqsvc]

/-- The HOST's turn is the HOST's move. -/
theorem step_host (h : HostTurn s) : step s = hostMove (dropEvent s) := by
  obtain ⟨h1, h2, h3, h4, h5⟩ := h
  simp [step, nextMove, h1, h4, h5, hostTurn, h2]

/-! ### Which micro-step the HOST's move runs (R222, R225) -/

theorem hostMove_u2 (hr : s.refused = none) (hq : s.seq = .u2) : hostMove s = .next (stepU2 s) := by
  simp [hostMove, hr, hq]

theorem hostMove_u4 (hr : s.refused = none) (hq : s.seq = .u4) : hostMove s = .next (stepU4 s) := by
  simp [hostMove, hr, hq]

theorem hostMove_u5 (hr : s.refused = none) (hq : s.seq = .u5) : hostMove s = .next (stepU5 s) := by
  simp [hostMove, hr, hq]

theorem hostMove_u6 (hr : s.refused = none) (hq : s.seq = .u6) : hostMove s = .next (stepU6 s) := by
  simp [hostMove, hr, hq]

theorem hostMove_v1 (hr : s.refused = none) (hq : s.seq = .v1) : hostMove s = .next (stepV1 s) := by
  simp [hostMove, hr, hq]

theorem hostMove_v2 (hr : s.refused = none) (hq : s.seq = .v2) : hostMove s = .next (stepV2 s) := by
  simp [hostMove, hr, hq]

theorem hostMove_v3 (hr : s.refused = none) (hq : s.seq = .v3) : hostMove s = .next (stepV3 s) := by
  simp [hostMove, hr, hq]

theorem hostMove_v5 (hr : s.refused = none) (hq : s.seq = .v5) : hostMove s = .next (stepV5 s) := by
  simp [hostMove, hr, hq]

theorem hostMove_v6 (hr : s.refused = none) (hq : s.seq = .v6) : hostMove s = .next (stepV6 s) := by
  simp [hostMove, hr, hq]

theorem hostMove_v7 (hr : s.refused = none) (hq : s.seq = .v7) : hostMove s = .next (stepV7 s) := by
  simp [hostMove, hr, hq]

theorem hostMove_u8 (hr : s.refused = none) (hq : s.seq = .u8) : hostMove s = .next (stepU8 s) := by
  simp [hostMove, hr, hq]

theorem hostMove_u3 {v : Byte} (hr : s.refused = none) (hq : s.seq = .u3 v) : hostMove s = .next (stepU3 v s) := by
  simp [hostMove, hr, hq]

theorem hostMove_u7 (hr : s.refused = none) (hq : s.seq = .u7) : hostMove s = .next (stepV0 s) := by
  simp [hostMove, hr, hq, exec, execVerify]

theorem hostMove_v4 {rb : List Byte} (hr : s.refused = none) (hq : s.seq = .v4 rb) : hostMove s = .next (stepV4 rb s) := by
  simp [hostMove, hr, hq]

theorem hostMove_v8 {t : Bool} (hr : s.refused = none) (hq : s.seq = .v8 t) : hostMove s = .next (stepV8 t s) := by
  simp [hostMove, hr, hq]

/-- With no request to issue the HOST waits (log 3). -/
theorem hostMove_wait (hr : s.refused = none) (hq : s.seq = .idle) (hh : s.host = []) : hostMove s = .next s := by
  simp [hostMove, hr, hq, hh]

/-- The HOST issues the head of its queue. -/
theorem hostMove_issue {r : Request} {rest : List Request} (hr : s.refused = none) (hq : s.seq = .idle)
    (hh : s.host = r :: rest) : hostMove s = issue r { s with host := rest } := by
  simp [hostMove, hr, hq, hh]

/-- Once REFUSED = 1 the HOST has no move (R262). -/
theorem hostMove_refused (hr : s.refused ≠ none) : hostMove s = .refused .hostStuck := by
  have : s.refused.isSome = true := by cases h : s.refused <;> simp_all
  simp [hostMove, this]

/-! ### Several steps -/

@[simp] theorem steps_zero (s : State) : steps 0 s = .next s := rfl

/-- One step, then the others. -/
theorem steps_succ {s t : State} (k : Nat) (h : step s = .next t) : steps (k + 1) s = steps k t := by
  simp [steps, h]

/-- `a` steps, then `b` more. -/
theorem steps_add (a b : Nat) : ∀ {s t : State}, steps a s = .next t → steps (a + b) s = steps b t := by
  induction a with
  | zero =>
    intro s t h
    rw [steps_zero] at h
    injection h with h
    simp [h]
  | succ a ih =>
    intro s t h
    rw [Nat.add_right_comm]
    cases hs : step s with
    | next u =>
      rw [steps_succ a hs] at h
      rw [steps_succ (a + b) hs]
      exact ih h
    | fault r => simp [steps, hs] at h
    | refused r => simp [steps, hs] at h

/-! ### A transaction in the statements' vocabulary -/

/-- What BusWrite does (R165, R83). -/
theorem busWrite_frames {addr : Byte} (h : addr.toNat < 2 ^ addrWidth) (bytes : List Byte) (s : State) :
    ∃ (got : List Byte) (chip : Peripheral), got.length = bytes.length + 1 ∧
      busWrite addr bytes s = withFrames s chip [writeEvent s s.ctx addr bytes got] ∧
      Landed addr bytes s.chip chip :=
  ⟨Peripheral.sentBack .write addr bytes s.chip, Peripheral.after .write addr bytes s.chip, by simp,
    by rw [busWrite_eq, eventOf, commandByte_eq _ _ h]; rfl, Peripheral.after_write_read addr bytes s.chip⟩

/-- What BusRead does (R164). -/
theorem busRead_frames {addr : Byte} (h : addr.toNat < 2 ^ addrWidth) (n : Nat) (s : State) :
    ∃ (first : Byte) (data : List Byte) (chip : Peripheral), data.length = n ∧
      busRead addr n s = (data, withFrames s chip [readEvent s addr first data]) ∧ SameRegisters s.chip chip := by
  refine ⟨(s.chip.receive none).1, (Peripheral.exchange .read addr.toNat (List.replicate n 0x00) s.chip.addressed).1,
    Peripheral.after .read addr (List.replicate n 0x00) s.chip, by simp, ?_, fun a => by simp⟩
  rw [busRead_eq]
  simp [withFrames, readEvent, eventOf, Peripheral.sentBack, commandByte_eq _ _ h]

end Sys2Proof.Machine
end

