-- ==== Sys2Proof/Tests/Slice0.lean ====
section
/-! SUPPORT. Tests: expected results are those of spec/95_test_vectors.md and of the rules' worked examples, named at
each test. Then the witnesses: for each statement with hypotheses, values that meet them. -/

namespace Sys2Proof.Tests

open Sys2Proof.Machine Sys2Proof.Safety

/-! ## Helpers -/

/-- A configuration with the OPEN parameters of R7 set: an interrupt source, a sink, weekday sentinel 0x06, and a wait
above one tick. -/
def cfg : Params := { Params.default with hasIrq := true, hasSink := true, weekday := 0x06, verifyWaitMs := 20 }

/-- After power-on, with that configuration. -/
def cold : State := { State.reset with cfg := cfg }

/-- After a SETUP: Operational, wired. -/
def ready : State := { cold with inited := true, irqWired := true }

/-- A request with these DIN bytes is in progress. -/
def fed (din : List Byte) (s : State) : State := { s with req := some ⟨0, din⟩ }

/-- The bus will return these bytes. -/
def drawing (bytes : List Byte) (s : State) : State := { s with chip := { s.chip with answers := .draws bytes } }

/-- Something of the next state. -/
def next? {α : Type} (f : State → α) : Host.Outcome State Fault Refusal → Option α
  | .next t => some (f t)
  | .fault _ => none
  | .refused _ => none

/-- The response a move gives: status, value, data-out. -/
def answer (o : Host.Outcome State Fault Refusal) : Option (Option (Status × BitVec 32 × List Byte)) :=
  next? (fun t => t.responses.getLast?.map fun r => (r.status, r.value, r.dout)) o

/-- The bytes sent in each transaction of a move. -/
def sent (o : Host.Outcome State Fault Refusal) : Option (List (BusMode × List Byte)) :=
  next? (fun t => t.busLog.map fun e => (e.mode, e.sent)) o

/-- Why a move refused. -/
def refusal (o : Host.Outcome State Fault Refusal) : Option (Option Reason) :=
  next? (fun t => t.refused.map (·.reason)) o

/-- What a table word decodes to as a request of the HOST; none where it is refused. -/
def request? (w : ReqWord) : Option Instr :=
  match decodeRequest w with
  | .ok i => some i
  | .error _ => none

/-- Why a word is refused as a request of the HOST. -/
def defect? (w : ReqWord) : Option Reason :=
  match decodeRequest w with
  | .ok _ => none
  | .error r => some r

/-! ## Ill-formed operands are refused (vectors 2.3.7 to 2.3.9) -/

theorem test_wf_rdreg : (Instr.rdreg 0x0F).wf = true ∧ (Instr.rdreg 0x10).wf = false := by decide
theorem test_wf_wrreg : (Instr.wrreg 0x0F 0xFF).wf = true ∧ (Instr.wrreg 0x10 0x00).wf = false := by decide
theorem test_wf_brd :
    (Instr.brd 0x00 16).wf = true ∧ (Instr.brd 0x0E 3).wf = false ∧ (Instr.brd 0x02 0).wf = false := by decide
theorem test_wf_bwr :
    (Instr.bwr 0x0F 1).wf = true ∧ (Instr.bwr 0x0F 2).wf = false ∧ (Instr.bwr 0x02 0).wf = false := by decide

/-! ## Every constructor's word, from the spec's encodings (R100-R113, 95_test_vectors.md) -/

theorem test_decode_codec :
    request? 0x0000000000005901 = some (.bcd2dec 0x59) ∧ request? 0x0000000000002A02 = some (.dec2bcd 42) ∧
    request? 0x499602D200000003 = some (.encode 1234567890) ∧ request? 0x0000000000000004 = some .decode ∧
    request? 0x0000000000000005 = some .format := by decide

theorem test_decode_bus :
    request? 0x0000000000000F10 = some (.rdreg 0x0F) ∧ request? 0x0000000000790E11 = some (.wrreg 0x0E 0x79) ∧
    request? 0x0000000000020E12 = some (.brd 0x0E 2) ∧ request? 0x0000000000020E13 = some (.bwr 0x0E 2) := by decide

theorem test_decode_tick :
    request? 0x000000000000FF20 = some (.setper 255) ∧ request? 0x0000000000000021 = some .stop ∧
    request? 0x0000000000000022 = some .getper ∧ request? 0x0000000000000023 = some .consume ∧
    request? 0x0000000000000024 = some .getms := by decide

theorem test_decode_driver :
    request? 0x0000000000000030 = some .setup ∧ request? 0x0000000000000031 = some .gettime ∧
    request? 0x0000000000000032 = some .getts ∧ request? 0x0000000000000033 = some .settime ∧
    request? 0x0000000000000034 = some .status ∧ request? 0x0000000000070040 = some (.cmd 0 7) := by decide

/-- Internal codes and bus command bytes, by the table's reading (R110, R114: write 0x1E, read 0x9E and 0x92). -/
theorem test_decode_internal :
    decodeTableWord 64 0x3F = some .verify ∧ decodeTableWord 64 0xF0 = some .irqsvc ∧
    decodeTableWord 8 0x1E = some (.busWrite 0xE) ∧ decodeTableWord 8 0x9E = some (.busRead 0xE) ∧
    decodeTableWord 8 0x92 = some (.busRead 0x2) ∧ decodeTableWord 8 0x52 = none := by decide

/-- R113, R114: the six-bit address field under the default masks, at the map's last register. -/
theorem test_address_field :
    addrField 0x0F = 0b001111#6 ∧ busCommand 0x10 0b001111#6 = 0x1F ∧ busCommand 0x90 0b001111#6 = 0x9F := by decide

/-- Vectors 2.1 (DEC2BCD 5 with B = 1), 2.3.12 to 2.3.14 and 2.4.15. -/
theorem test_decode_refused :
    defect? 0x0000000000010502 = some .reservedField ∧ defect? 0x0000000001000F10 = some .reservedField ∧
    defect? 0x0000000000000006 = some .reservedOp ∧ defect? 0x00000000000000F0 = some .internalOp ∧
    defect? 0x000000000000003F = some .internalOp ∧ defect? 0x0000000100000034 = some .reservedField := by decide

/-! ## Placing a table word: the next step runs it -/

/-- P5: DEC2BCD 42 needs no SETUP and gives 0x42. -/
theorem test_place_dec2bcd :
    answer (step (cold.withFetchWord 64 0x0000000000002A02)) = some (some (.ok, 0x42, [])) := by decide

/-- P5: WRREG 0x0E, 0x79 before SETUP is refused NOT_INITIALIZED; R262's record holds REQ. -/
theorem test_place_wrreg :
    next? (·.refused) (step (cold.withFetchWord 64 0x0000000000790E11)) =
      some (some ⟨.notInitialized, some 0x0000000000790E11⟩) := by decide

/-- VERIFY with a source goes on to V1; IRQSVC sets TICK; a bus byte opens the transaction's record. -/
theorem test_place_internal :
    next? (·.seq) (step (cold.withFetchWord 64 0x3F)) = some .v1 ∧
    next? (·.tick) (step (cold.withFetchWord 64 0xF0)) = some true ∧
    next? (fun t => t.txn.map (·.ptr)) (step (cold.withFetchWord 8 0x92)) = some (some 2) := by decide

/-! ## Effects (vectors of 95_test_vectors.md) -/

/-- 2.1: 0xFF -> 165. -/
theorem test_bcd2dec : answer (exec (.bcd2dec 0xFF) cold) = some (some (.ok, 165, [])) := by decide
/-- 2.1: 199 -> 0x39. -/
theorem test_dec2bcd : answer (exec (.dec2bcd 199) cold) = some (some (.ok, 0x39, [])) := by decide
/-- 2.2: ENCODE 1234567890. -/
theorem test_encode : answer (exec (.encode 1234567890) cold) =
    some (some (.ok, 0, [0x30, 0x31, 0x23, 0x29, 0x06, 0x05, 0x38])) := by decide
/-- 2.2: ENCODE 4294967295, year 133. -/
theorem test_encode_last : answer (exec (.encode 4294967295) cold) =
    some (some (.ok, 0, [0x15, 0x28, 0x06, 0x18, 0x06, 0x08, 0xD3])) := by decide
/-- 2.2: seven zero bytes wrap. -/
theorem test_decode_wraps : answer (exec .decode (fed [0, 0, 0, 0, 0, 0, 0] cold)) =
    some (some (.ok, 4292202496, [])) := by decide
/-- 2.2: seven bytes 0xFF. -/
theorem test_decode_ones : answer (exec .decode (fed [0xFF, 0xFF, 0xFF, 0xFF, 0xFF, 0xFF, 0xFF] cold)) =
    some (some (.ok, 1462295969, [])) := by decide
/-- 2.2: "01-01-20100 00:00:00", 20 bytes. -/
theorem test_format : answer (exec .format (fed [0x00, 0x00, 0x00, 0x01, 0x06, 0x01, 0xA0] cold)) =
    some (some (.ok, 0, [0x30, 0x31, 0x2D, 0x30, 0x31, 0x2D, 0x32, 0x30, 0x31, 0x30, 0x30, 0x20,
      0x30, 0x30, 0x3A, 0x30, 0x30, 0x3A, 0x30, 0x30])) := by decide
/-- 2.2: a six-byte DIN is refused. -/
theorem test_format_length : refusal (exec .format (fed [0, 0, 0, 0, 0, 0] cold)) = some (some .badLength) := by decide

/-- R166: RDREG 0x0F sends [0x9F, 0x00]; VALUE is the second byte received. -/
theorem test_rdreg :
    answer (exec (.rdreg 0x0F) (drawing [0xAA, 0x08] ready)) = some (some (.ok, 0x08, [])) ∧
    sent (exec (.rdreg 0x0F) (drawing [0xAA, 0x08] ready)) = some [(.read, [0x9F, 0x00])] := by decide
/-- 2.3.2: WRREG 0x01, 0x01 sends [0x11, 0x01]. -/
theorem test_wrreg : sent (exec (.wrreg 0x01 0x01) ready) = some [(.write, [0x11, 0x01])] := by decide
/-- 2.3.3: BRD 0x0E, 2 sends [0x9E, 0x00, 0x00] and answers two bytes. -/
theorem test_brd :
    answer (exec (.brd 0x0E 2) (drawing [0xAA, 0x71, 0x08] ready)) = some (some (.ok, 0, [0x71, 0x08])) ∧
    sent (exec (.brd 0x0E 2) (drawing [0xAA, 0x71, 0x08] ready)) = some [(.read, [0x9E, 0x00, 0x00])] := by decide
/-- 2.3.5: BWR 0x0E, 2, [0x71, 0x08]. -/
theorem test_bwr :
    sent (exec (.bwr 0x0E 2) (fed [0x71, 0x08] ready)) = some [(.write, [0x1E, 0x71, 0x08])] ∧
    next? (fun t => (Memory.read t.chip.preg 0x0E, Memory.read t.chip.preg 0x0F))
      (exec (.bwr 0x0E 2) (fed [0x71, 0x08] ready)) = some (some 0x71, some 0x08) := by decide
/-- The reference oracle (R81) answers what was written. -/
theorem test_oracle :
    next? (fun t => answer (exec (.rdreg 0x0F) (fed [] t)))
      (exec (.wrreg 0x0F 0x5A) { ready with chip := { ready.chip with answers := .oracle } }) =
    some (some (some (.ok, 0x5A, []))) := by decide

/-- 2.5: SETPER 8 sends three writes and caches 125. -/
theorem test_setper :
    next? (·.periodMs) (exec (.setper 8) ready) = some 125 ∧
    sent (exec (.setper 8) ready) =
      some [(.write, [0x1E, 0x71]), (.write, [0x1F, 0x08]), (.write, [0x1E, 0x79])] := by decide
/-- 2.5: SETPER 255 caches 3984; 2.4.8: FAIL with no bus traffic while faulted. -/
theorem test_setper_edges :
    next? (·.periodMs) (exec (.setper 255) ready) = some 3984 ∧
    answer (exec (.setper 8) { ready with fault := true }) = some (some (.fail, 0, [])) ∧
    sent (exec (.setper 8) { ready with fault := true }) = some [] := by decide
/-- 2.4.10: STOP while faulted is not guarded by default. -/
theorem test_stop :
    next? (·.periodMs) (exec .stop { ready with fault := true, periodMs := 15 }) = some 0 ∧
    sent (exec .stop { ready with fault := true, periodMs := 15 }) = some [(.write, [0x1E, 0x71])] := by decide
/-- 2.4.11: STOP fails under STOP_GUARDED. -/
theorem test_stop_guarded :
    answer (exec .stop { ready with fault := true, cfg := { cfg with stopGuarded := true } }) =
      some (some (.fail, 0, [])) := by decide
/-- R194's example, and 2.4.9. -/
theorem test_getper :
    answer (exec .getper { ready with periodMs := 125 }) = some (some (.ok, 125, [])) ∧
    answer (exec .getper { ready with fault := true }) = some (some (.fail, 0, [])) := by decide
/-- 2.5.5: CONSUME takes the tick. -/
theorem test_consume :
    answer (exec .consume { cold with tick := true }) = some (some (.ok, 1, [])) ∧
    next? (·.tick) (exec .consume { cold with tick := true }) = some false := by decide
/-- 2.5.9: GETMS. -/
theorem test_getms : answer (exec .getms { ready with acc := 375 }) = some (some (.ok, 375, [])) := by decide
/-- 2.5.1 and 2.5.2: the service adds the period, with wrap. -/
theorem test_irqsvc :
    next? (·.acc) (exec .irqsvc { ready with irqPend := true, acc := 250, periodMs := 125 }) = some 375 ∧
    next? (·.acc) (exec .irqsvc { ready with irqPend := true, acc := 0xFFFFFFF0, periodMs := 125 }) = some 109 := by
  decide
/-- R266 and R267: IE and CTX as before, the latch clear, the acknowledge sent from the ISR. -/
theorem test_irqsvc_ack :
    next? (fun t => (t.ie, t.irqPend, t.ctx, t.tick)) (exec .irqsvc { ready with irqPend := true }) =
      some (true, false, .main, true) ∧
    next? (fun t => t.busLog.map fun e => (e.ctx, e.sent)) (exec .irqsvc { ready with irqPend := true }) =
      some [(.isr, [0x11, 0x01])] := by decide

/-- R222: SETUP clears FAULT and begins. -/
theorem test_setup : next? (fun t => (t.fault, t.seq)) (exec .setup { ready with fault := true }) =
    some (false, .u2) := by decide
/-- P1: step U3 with the seconds byte 0x80 sends [0x10, 0x58]; with 0x45 (2.4.2) nothing. -/
theorem test_setup_recovery :
    (stepU3 0x80 ready).busLog.map (·.sent) = [[0x10, 0x58]] ∧ (stepU3 0x80 ready).seq = .u4 ∧
    stepU3 0x45 ready = { ready with seq := .u5 } := by decide
/-- R226: with no interrupt source VERIFY returns at once; P4: a readback of [0x00, 0x00] sets FAULT. -/
theorem test_verify :
    next? (·.seq) (exec .verify { cold with cfg := { cfg with hasIrq := false }, seq := .u7 }) = some .u8 ∧
    (stepV4 [0x00, 0x00] ready).fault = true ∧ (stepV4 [0x79, 0x01] ready).seq = .v5 := by decide
/-- 2.4.3: no tick at V7 sets FAULT at V8. -/
theorem test_verify_no_tick : (stepV8 (decide (ready.tick = true)) ready).fault = true := by decide
/-- P3: GETTIME answers the raw bytes. -/
theorem test_gettime :
    answer (exec .gettime (drawing [0, 0x30, 0x31, 0x23, 0x29, 0x06, 0x05, 0x38] ready)) =
      some (some (.ok, 0, [0x30, 0x31, 0x23, 0x29, 0x06, 0x05, 0x38])) := by decide
/-- 2.4.6: GETTS. -/
theorem test_getts :
    answer (exec .getts (drawing [0, 0x30, 0x31, 0x23, 0x29, 0x06, 0x05, 0x38] ready)) =
      some (some (.ok, 1234567890, [])) := by decide
/-- 2.4.7: SETTIME. -/
theorem test_settime : sent (exec .settime (fed [0x00, 0x00, 0x00, 0x01, 0x06, 0x01, 0x00] ready)) =
    some [(.write, [0x12, 0x00, 0x00, 0x00, 0x01, 0x06, 0x01, 0x00])] := by decide
/-- R233: Faulted reads 3; 2.4.13: power-on reads 0. -/
theorem test_status :
    answer (exec .status { ready with fault := true }) = some (some (.ok, 3, [])) ∧
    answer (exec .status cold) = some (some (.ok, 0, [])) := by decide
/-- 2.6.2 and 2.6.4: the two error responses, with no bus traffic. -/
theorem test_cmd_errors :
    answer (exec (.cmd 0 6) (fed [0, 0, 0, 1, 6, 1] ready)) = some (some (.dataSizeError, 0, [])) ∧
    sent (exec (.cmd 0 6) (fed [0, 0, 0, 1, 6, 1] ready)) = some [] ∧
    answer (exec (.cmd 1 0) { ready with cfg := { cfg with hasSink := false } }) =
      some (some (.generalError, 0, [])) := by decide
/-- 2.6.5: the text "29-05-2038 23:31:30"; 2.6.6: CMD 2 has no response. -/
theorem test_cmd_print :
    answer (exec (.cmd 1 0) (drawing [0, 0x30, 0x31, 0x23, 0x29, 0x06, 0x05, 0x38] ready)) =
      some (some (.ok, 0, [0x32, 0x39, 0x2D, 0x30, 0x35, 0x2D, 0x32, 0x30, 0x33, 0x38, 0x20,
        0x32, 0x33, 0x3A, 0x33, 0x31, 0x3A, 0x33, 0x30])) ∧
    answer (exec (.cmd 2 0) ready) = some none := by decide
/-- R113: the command bytes 0x1E and 0x92. -/
theorem test_bus_commands :
    next? (fun t => t.txn.map (·.sent)) (exec (.busWrite 0xE) { ready with sel := true }) = some (some [0x1E]) ∧
    next? (fun t => t.txn.map (·.sent)) (exec (.busRead 0x2) { ready with sel := true }) = some (some [0x92]) := by
  decide

/-! ## Reset and the outside world -/

/-- R48, R300. -/
theorem test_reset :
    (cold.acc, cold.periodMs, cold.tick, cold.fault, cold.inited, cold.irqWired) = (0, 0, false, false, false, false) ∧
    (cold.ie, cold.irqPend, cold.ctx, cold.seq, cold.sel) = (true, false, .main, .idle, false) ∧
    cold.refused = none ∧ cold.busLog = [] := by decide
/-- 2.5.4: an edge on an unwired line has no effect; 2.5.8: two edges back to back latch once. -/
theorem test_edge :
    (edgeArrives cold).irqPend = false ∧ (edgeArrives (edgeArrives ready)).irqPend = true := by decide

/-! ## Witnesses: values that meet each statement's hypotheses -/

/-- A HOST with one request queued. -/
def asking (w : ReqWord) (din : List Byte) (s : State) : State := { s with host := [⟨w, din⟩] }

theorem witness_EncodeInvertsDecode : decodeCode (.req 0x0000000000000F10) = .ok (.rdreg 0x0F) := rfl

/-- One word for each branch, at its boundary: internal, outside the map, RSV, unused A, B and T, and a good word. -/
theorem witness_RequestDecodingOrder :
    opOf 0x3F = 0x3F ∧ opOf 0xF0 = 0xF0 ∧ opOf 0x06 = 0x06 ∧ rsvOf 0x01000F10 = 1 ∧
    (opOf 0x0121 = 0x21 ∧ aOf 0x0121 = 1) ∧ (opOf 0x010F10 = 0x10 ∧ bOf 0x010F10 = 1) ∧
    (opOf 0x0000000100000034 = 0x34 ∧ tOf 0x0000000100000034 = 1) ∧
    (opOf 0x40 = 0x40 ∧ rsvOf 0x40 = 0 ∧ tOf 0x40 = 0) := by decide

theorem witness_WrongDinLengthRefused :
    (dinOf (fed [1, 2, 3, 4, 5, 6] cold)).length ≠ 7 ∧ (dinOf (fed [1, 2, 3, 4, 5, 6, 7, 8] cold)).length ≠ 7 ∧
    (dinOf cold).length ≠ (1 : Byte).toNat ∧ dinOf (fed [1] cold) ≠ [] := by decide

theorem witness_StepRunsDecodedRequest :
    let s := asking 0x24 [] cold
    HostTurn s ∧ s.seq = .idle ∧ s.host = ⟨0x24, []⟩ :: [] ∧ decodeRequest 0x24 = .ok .getms :=
  ⟨by decide, by decide, by decide, rfl⟩

theorem witness_StepRefusesUndecodedRequest :
    let s := asking 0x06 [] cold
    HostTurn s ∧ s.seq = .idle ∧ s.host = ⟨0x06, []⟩ :: [] ∧ s.req = none ∧ decodeRequest 0x06 = .error .reservedOp :=
  ⟨by decide, by decide, by decide, by decide, rfl⟩

theorem witness_StepRunsInternalCodes :
    (HostTurn { ready with seq := .u7 } ∧ ({ ready with seq := .u7 } : State).seq = .u7) ∧
    (serviceable { ready with irqPend := true } = true ∧ nextEvent { ready with irqPend := true } = .host) ∧
    (serviceable { ready with irqPend := true, agenda := [.wait] } = true ∧
      nextEvent { ready with irqPend := true, agenda := [.wait] } = .wait) ∧
    decodeBus ready.cfg.writeMask ready.cfg.readMask 0x1F = some (.busWrite 0xF) ∧
    decodeBus ready.cfg.writeMask ready.cfg.readMask 0x90 = some (.busRead 0x0) := by decide

theorem witness_IdleHostWaits : HostTurn cold ∧ cold.seq = .idle ∧ cold.host = [] := by decide

theorem witness_Bcd2decValue : dinOf cold = [] := by decide
theorem witness_Dec2bcdValue : dinOf cold = [] := by decide
theorem witness_EncodeRecord : dinOf cold = [] := by decide
theorem witness_DecodeTimestamp : dinOf (fed [0, 0, 0, 1, 0, 1, 0] cold) = [0, 0, 0, 1, 0, 1, 0] := by decide
theorem witness_FormatText : dinOf (fed [0, 0, 0, 1, 0, 1, 0xA0] cold) = [0, 0, 0, 1, 0, 1, 0xA0] := by decide
theorem witness_BcdRoundTrip :
    dinOf cold = [] ∧ (159 : Byte).toNat < 160 ∧ ¬ (160 : Byte).toNat < 160 := by decide
theorem witness_TimestampRoundTrip :
    dinOf cold = [] ∧ dinOf (fed (recordBytes (encodeTime 6 0)) cold) = recordBytes (encodeTime 6 0) ∧
    cold.cfg.decodeMasks = ⟨0xFF, 0xFF, 0xFF, 0xFF, 0xFF, 0xFF, 0xFF⟩ := by decide

/-- The largest valid record and the smallest. -/
theorem witness_ValidRecord :
    ValidRecord ⟨0x59, 0x59, 0x23, 0x31, 0x06, 0x12, 0x99⟩ ∧ ValidRecord ⟨0x00, 0x00, 0x00, 0x01, 0x00, 0x01, 0x00⟩ := by
  unfold ValidRecord validBcd
  decide

/-- A weekday above 6, or one with a nibble above 9, makes a record invalid (R45, R46). -/
theorem test_invalid_weekday :
    ¬ ValidRecord ⟨0x00, 0x00, 0x00, 0x01, 0x07, 0x01, 0x00⟩ ∧ ¬ ValidRecord ⟨0x00, 0x00, 0x00, 0x01, 0x0A, 0x01, 0x00⟩ :=
  ⟨fun h => absurd h.2.2.2.2.1.2.2.2 (by decide), fun h => absurd h.2.2.2.2.1.2.1 (by decide)⟩

/-- With the weekday byte in place and with another one. -/
theorem witness_RecordRoundTrip :
    let r : TimeRecord := ⟨0x59, 0x59, 0x23, 0x31, 0x06, 0x12, 0x99⟩
    ValidRecord r ∧
    dinOf (fed [0x59, 0x59, 0x23, 0x31, 0x06, 0x12, 0x99] cold) = recordBytes { r with weekday := 0x06 } ∧
    dinOf (fed [0x59, 0x59, 0x23, 0x31, 0xFF, 0x12, 0x99] cold) = recordBytes { r with weekday := 0xFF } ∧
    cold.cfg.decodeMasks = ⟨0xFF, 0xFF, 0xFF, 0xFF, 0xFF, 0xFF, 0xFF⟩ :=
  ⟨witness_ValidRecord.1, by decide, by decide, by decide⟩

theorem witness_RdregReadsOneByte :
    dinOf ready = [] ∧ (0x0F : Byte).toNat ≤ 0x0F ∧ ready.inited = true ∧ ready.sel = false := by decide

/-- Past the map, before SETUP, and after it. -/
theorem witness_WrregWritesOneByte :
    dinOf cold = [] ∧ dinOf ready = [] ∧ 0x0F < (0x10 : Byte).toNat ∧ ¬ 0x0F < (0x0F : Byte).toNat ∧
    cold.inited = false ∧ ready.inited = true ∧ ready.sel = false := by decide

theorem witness_BrdReadsBurst :
    dinOf ready = [] ∧ (16 : Byte) ≠ 0 ∧ (0 : Byte).toNat + (16 : Byte).toNat ≤ 16 ∧
    (0x0F : Byte).toNat + (1 : Byte).toNat ≤ 16 ∧ ready.inited = true ∧ ready.sel = false := by decide

theorem witness_BwrLandsBurst :
    (dinOf (fed [0x71, 0x08] ready)).length = (2 : Byte).toNat ∧ (2 : Byte) ≠ 0 ∧
    (0x0E : Byte).toNat + (2 : Byte).toNat ≤ 16 ∧ (fed [0x71, 0x08] ready).inited = true ∧
    (fed [0x71, 0x08] ready).sel = false := by decide

theorem witness_IllegalAddressesRefused :
    dinOf cold = [] ∧ 0x0F < (0x10 : Byte).toNat ∧ (3 : Byte) ≠ 0 ∧ 16 < (0x0E : Byte).toNat + (3 : Byte).toNat ∧
    (dinOf (fed [1, 2, 3] cold)).length = (3 : Byte).toNat := by decide

/-- Each of the ten operations, with legal operands and the DIN it takes. -/
theorem witness_BusOperationsNeedSetup :
    cold.inited = false ∧
    (∀ i ∈ [Instr.rdreg 0x0F, .wrreg 0x00 1, .brd 0x00 16, .setper 255, .stop, .gettime, .getts, .cmd 2 0],
      i.wf = true ∧ (dinOf cold).length = dinLength i) ∧
    (∀ i ∈ [Instr.bwr 0x09 7, .settime, .cmd 0 7],
      i.wf = true ∧ (dinOf (fed [1, 2, 3, 4, 5, 6, 7] cold)).length = dinLength i) := by decide

theorem witness_ReadsReturnTheDraws :
    let s := drawing [0xAA, 0x71, 0x08, 0x55] ready
    dinOf s = [] ∧ (2 : Byte) ≠ 0 ∧ (0x0E : Byte).toNat + (2 : Byte).toNat ≤ 16 ∧ s.inited = true ∧ s.sel = false ∧
    [(0x71 : Byte), 0x08].length = (2 : Byte).toNat ∧
    s.chip.answers = .draws (0xAA :: ([0x71, 0x08] ++ [0x55])) := by decide

theorem witness_CriticalSectionsRestoreEnable :
    (clearTick (csEnter { ready with ie := false })).savedIe = (csEnter { ready with ie := false }).savedIe ∧
    (∃ t, exec (.setper 8) ready = .next t) ∧
    (let s : State := { ready with seq := .v6 }
     s.sel = false ∧ s.ctx = .main ∧ nextEvent s ≠ .powerOn ∧ ∃ t, step s = .next t) :=
  ⟨by decide, ⟨_, rfl⟩, by decide, by decide, by decide, _, rfl⟩

theorem witness_TransactionIsItsByteSteps :
    (0x0F : Byte).toNat ≤ 0x0F ∧ ready.cfg.writeMask &&& 0x0F = 0 ∧ ready.cfg.readMask &&& 0x0F = 0 ∧
    ready.cfg.writeMask ≠ ready.cfg.readMask ∧ (0x0F : Byte).toNat + [(0xFF : Byte)].length ≤ 16 ∧
    (0x00 : Byte).toNat + 16 ≤ 16 := by decide

theorem witness_CommandByteBeginsTransaction :
    (({ ready with sel := true } : State).sel = true ∧ ({ ready with sel := true } : State).txn = none) ∧
    ready.sel = false ∧ (xferCommand .read 0x02 { ready with sel := true }).txn ≠ none := by decide

/-- A configuration with STOP_GUARDED. -/
def guarded : State := { ready with cfg := { cfg with stopGuarded := true } }

/-- The paths: before SETUP; OFF guarded and not; faulted; running, at both ends of the tick counts. -/
theorem witness_SetperPaths :
    (dinOf cold = [] ∧ cold.sel = false ∧ cold.inited = false) ∧
    (dinOf ready = [] ∧ ready.sel = false ∧ ready.inited = true ∧ ready.fault = false ∧ ready.cfg.stopGuarded = false) ∧
    (guarded.inited = true ∧ guarded.sel = false ∧ dinOf guarded = [] ∧ guarded.cfg.stopGuarded = true) ∧
    (1 : Byte) ≠ 0 ∧ (255 : Byte) ≠ 0 := by decide

/-- The paths: before SETUP; after it; guarded and faulted. -/
theorem witness_StopPaths :
    (dinOf cold = [] ∧ cold.sel = false ∧ cold.inited = false) ∧
    dinOf ready = [] ∧ ready.inited = true ∧ ready.sel = false ∧
    dinOf { guarded with fault := true } = [] ∧ ({ guarded with fault := true } : State).fault = true := by decide

theorem witness_GetperReadsPeriod : dinOf cold = [] ∧ dinOf { ready with fault := true } = [] := by decide
theorem witness_ConsumeTakesTick : dinOf { ready with tick := true } = [] := by decide
theorem witness_GetmsReadsAccumulator : dinOf { ready with acc := 375 } = [] := by decide

theorem witness_ServiceEntryBodyReturn :
    serviceable { ready with irqPend := true } = true ∧ serviceable { ready with irqPend := true, ie := false } = false ∧
    serviceable ready = false := by decide

/-- With no edge, with one, and with two. -/
theorem witness_ServicesAccumulate :
    ∀ n ∈ [0, 1, 2], let s : State := { ready with agenda := edgesOneByOne n ++ [.host] }
      Settled s ∧ s.irqWired = true ∧ s.irqPend = false ∧ s.agenda = edgesOneByOne n ++ [.host] := by decide

theorem witness_TickSeenOnce :
    let s : State := { ready with agenda := edgesOneByOne 1 ++ [] }
    Settled s ∧ s.irqWired = true ∧ s.irqPend = false ∧ dinOf s = [] ∧ s.agenda = edgesOneByOne 1 ++ [] ∧
    ∃ s1, exec .consume s = .next s1 :=
  ⟨by decide, by decide, by decide, by decide, by decide, _, rfl⟩

theorem witness_PeriodConversion :
    (1 : Byte) ≠ 0 ∧ (255 : Byte) ≠ 0 ∧ dinOf ready = [] ∧ ready.inited = true ∧ ready.fault = false ∧
    ready.sel = false ∧ ready.cfg.periodFn = .exact := by decide

theorem witness_FaultGating :
    (∀ s ∈ [{ ready with fault := true }, { guarded with fault := true }],
      s.fault = true ∧ s.inited = true ∧ dinOf s = [] ∧ s.sel = false) ∧
    ready.cfg.stopGuarded = false ∧ guarded.cfg.stopGuarded = true ∧ (1 : Byte) ≠ 0 := by decide

theorem witness_SetupBegins : dinOf cold = [] ∧ dinOf { ready with fault := true } = [] := by decide

theorem witness_VerifyBegins : ({ ready with seq := .u7 } : State).seq = .u7 ∧ ready.seq ≠ .u7 := by decide

theorem witness_SetupRecoversOscillatorStop :
    HostTurn { cold with seq := .u2 } ∧ HostTurn { cold with seq := .u3 0x7F } ∧ HostTurn { cold with seq := .u3 0x80 } ∧
    HostTurn { cold with seq := .u4 } ∧ (0x7F : Byte).toNat < 128 ∧ 128 ≤ (0x80 : Byte).toNat := by decide

theorem witness_SetupWiresAndEnds :
    HostTurn { cold with seq := .u5 } ∧ cold.cfg.hasIrq = true ∧
    HostTurn { cold with seq := .u5, cfg := { cfg with hasIrq := false } } ∧ HostTurn { cold with seq := .u6 } ∧
    HostTurn { cold with seq := .u8 } := by decide

theorem witness_VerifyReadsBack :
    HostTurn { ready with seq := .v1 } ∧ HostTurn { ready with seq := .v2 } ∧ HostTurn { ready with seq := .v3 } ∧
    HostTurn { ready with seq := .v4 [timerCfgRun cfg, 0x01] } ∧ HostTurn { ready with seq := .v4 [0x00, 0x00] } ∧
    [(0x00 : Byte), 0x00] ≠ [timerCfgRun cfg, 0x01] ∧ ready.cfg.verifyReadback = .cfgAndCount := by decide

/-- Each single step's state; then the run with no edge in the wait, and with one. -/
theorem witness_VerifyWaitDecidesFault :
    (∀ q ∈ [Seq.v5, .v6, .v7, .v8 true, .v8 false], HostTurn { ready with seq := q }) ∧
    ∀ n ∈ [0, 1], let s : State := { ready with seq := .v5, agenda := edgesOneByOne n }
      Settled s ∧ s.refused = none ∧ s.irqWired = true ∧ s.irqPend = false ∧ s.seq = .v5 ∧
      s.agenda = edgesOneByOne n := by decide

theorem witness_SetupWithoutEdges :
    let s := asking 0x30 [] cold
    Settled s ∧ s.refused = none ∧ s.irqPend = false ∧ s.seq = .idle ∧ s.agenda = [] ∧ s.host = ⟨0x30, []⟩ :: [] := by
  decide

theorem witness_GettimeReturnsRawBytes : dinOf ready = [] ∧ ready.inited = true ∧ ready.sel = false := by decide

theorem witness_GettsDecodesOneSnapshot :
    dinOf cold = [] ∧ cold.inited = false ∧ dinOf ready = [] ∧ ready.inited = true ∧ ready.sel = false ∧
    (fed [1, 2, 3, 4, 5, 6, 7] ready).cfg = ready.cfg ∧
    dinOf (fed [1, 2, 3, 4, 5, 6, 7] ready) = [1, 2, 3, 4, 5, 6, 7] := by decide

theorem witness_SettimeWritesRecord :
    (dinOf (fed [1, 2, 3, 4, 5, 6] ready)).length ≠ 7 ∧ (dinOf (fed [1, 2, 3, 4, 5, 6, 7] cold)).length = 7 ∧
    (fed [1, 2, 3, 4, 5, 6, 7] cold).inited = false ∧ (fed [1, 2, 3, 4, 5, 6, 7] ready).inited = true ∧
    (fed [1, 2, 3, 4, 5, 6, 7] ready).sel = false := by decide

theorem witness_StatusReadsFlags : dinOf cold = [] := by decide

/-- Before SETUP, the wrong sizes on both sides of seven, and seven. -/
theorem witness_CmdSetTime :
    (dinOf cold).length = (0 : Byte).toNat ∧ cold.sel = false ∧ cold.inited = false ∧
    (dinOf (fed [1, 2, 3, 4, 5, 6] ready)).length = (6 : Byte).toNat ∧
    (dinOf (fed [1, 2, 3, 4, 5, 6, 7, 8] ready)).length = (8 : Byte).toNat ∧
    (dinOf (fed [1, 2, 3, 4, 5, 6, 7] ready)).length = (7 : Byte).toNat ∧
    (6 : Byte) ≠ 7 ∧ (8 : Byte) ≠ 7 ∧ ready.inited = true ∧ ready.sel = false := by decide

theorem witness_CmdPrintTime :
    (dinOf ready).length = (0 : Byte).toNat ∧ ready.inited = true ∧ ready.sel = false ∧ ready.cfg.hasSink = true ∧
    ({ cfg with hasSink := false } : Params).hasSink = false ∧
    dinOf (fed [1, 2, 3, 4, 5, 6, 7] ready) = [1, 2, 3, 4, 5, 6, 7] := by decide

theorem witness_CmdUnrecognizedIsSilent :
    (2 : Byte) ≠ 0 ∧ (2 : Byte) ≠ 1 ∧ (dinOf ready).length = (0 : Byte).toNat ∧ ready.inited = true ∧
    ready.sel = false := by decide

theorem witness_OutsideEvents :
    ready.sel = false ∧ ({ ready with agenda := [.edge] } : State).agenda = .edge :: [] ∧
    serviceable { ready with agenda := [.wait] } = false := by decide

/-- A latched edge with IE = 1; the same edge masked, on HOST's turn (where the step completes) and on WAIT's; none
latched. -/
theorem witness_ServiceBeforeHost :
    (let s : State := { ready with irqPend := true }
     s.ctx = .main ∧ s.ie = true ∧ s.irqPend = true ∧ s.sel = false ∧ nextEvent s = .host) ∧
    (∀ e ∈ [Event.host, .wait], let s : State := { ready with irqPend := true, ie := false, agenda := [e] }
      s.ctx = .main ∧ s.sel = false ∧ s.ie = false ∧ s.irqPend = true ∧ nextEvent s = e ∧
      next? (·.irqPend) (step s) = some true) ∧
    ready.ctx = .main ∧ ready.sel = false ∧ ready.irqPend = false := by decide

theorem witness_RefusedHostHasNoStep :
    let s := bindSecond ready
    s.refused ≠ none ∧ s.sel = false ∧ s.ctx = .main ∧ nextEvent s = .host ∧ serviceable s = false := by decide

theorem witness_PowerOnResets :
    let s : State := { ready with agenda := [.powerOn] }
    s.sel = false ∧ s.agenda = .powerOn :: [] := by decide

/-- A step with the HOST's turn next in a refused, initialised, wired block. -/
theorem witness_StepKeepsStickyState :
    let s : State := { bindSecond ready with agenda := [.wait] }
    nextEvent s ≠ .powerOn ∧ s.refused ≠ none ∧ s.inited = true ∧ s.irqWired = true ∧ ∃ t, step s = .next t :=
  ⟨by decide, by decide, by decide, by decide, _, rfl⟩

/-- A step that changes ACC and sets TICK. -/
theorem witness_OnlyServiceAdvancesClock :
    let s : State := { ready with irqPend := true, periodMs := 125 }
    nextEvent s ≠ .powerOn ∧ s.tick = false ∧
    next? (fun t => decide (t.acc ≠ s.acc) && t.tick) (step s) = some true := by decide

/-- Operations that change each register. -/
theorem witness_AccessRights :
    next? (fun t => decide (t.periodMs ≠ ready.periodMs)) (exec (.setper 8) ready) = some true ∧
    next? (fun t => decide (t.fault ≠ true)) (exec .setup { ready with fault := true }) = some true ∧
    next? (fun t => decide (t.tick ≠ true)) (exec .consume { ready with tick := true }) = some true ∧
    next? (fun t => decide (t.acc ≠ 0)) (exec .irqsvc { ready with irqPend := true, periodMs := 125 }) = some true ∧
    next? (fun t => t.responses.length) (exec (.dec2bcd 42) ready) = some 1 ∧
    (∀ q ∈ [Seq.u2, .u3 0x80, .u6, .v2, .v8 false, .u8],
      HostTurn { ready with seq := q } ∧ next? (·.acc) (step { ready with seq := q }) = some 0) := by
  decide

/-- The invariant holds after a SETUP, and a step runs there. -/
theorem witness_StepKeepsInvariant : Inv ready ∧ ∃ t, step (asking 0x24 [] ready) = .next t :=
  ⟨⟨by decide, by decide, by decide, by decide, by decide⟩, _, rfl⟩

end Sys2Proof.Tests
end

section
/-! PROOFS. The state family: what an operation, a micro-step of SETUP and a step of the machine can do, each said once;
then the statements about the registers of spec/10_state.md. -/

namespace Sys2Proof.Machine

open Sys2Proof.Safety

/-! ### Transactions as `withFrames` -/

theorem busWrite_withFrames (addr : Byte) (bytes : List Byte) (s : State) :
    busWrite addr bytes s =
      withFrames s (Peripheral.after .write addr bytes s.chip) [eventOf .write addr bytes s] :=
  busWrite_eq addr bytes s

theorem busRead_withFrames (addr : Byte) (n : Nat) (s : State) :
    busRead addr n s =
      ((Peripheral.exchange .read addr.toNat (List.replicate n 0x00) s.chip.addressed).1,
       withFrames s (Peripheral.after .read addr (List.replicate n 0x00) s.chip)
         [eventOf .read addr (List.replicate n 0x00) s]) :=
  busRead_eq addr n s

/-- A service is never due inside an open frame (R170). -/
theorem sel_of_serviceable {s : State} (h : serviceable s = true) : s.sel = false := by
  simp only [serviceable, Bool.and_eq_true, Bool.not_eq_true'] at h
  exact h.2

/-! ### What an operation can do -/

/-- The operations of the HOST that use the bus and leave PERIOD_MS alone. -/
def movesData : Instr → Bool
  | .rdreg _ => true
  | .wrreg _ _ => true
  | .brd _ _ => true
  | .bwr _ _ => true
  | .gettime => true
  | .getts => true
  | .settime => true
  | .cmd _ _ => true
  | _ => false

/-- The state after an operation, by the kind of effect the operation has. -/
inductive OpEffect (s : State) : Instr → State → Prop where
  /-- The request is refused (R262). -/
  | refused {i : Instr} (r : Reason) : OpEffect s i (refuse r s)
  /-- A response and nothing else (R106). -/
  | answered {i : Instr} (st : Status) (v : BitVec 32) (d : List Byte) : OpEffect s i (respond st v d s)
  /-- A CMD of unknown kind ends without a response (R253). -/
  | silent (kind len : Byte) : OpEffect s (.cmd kind len) (endRequest s)
  /-- Transactions, then a response. -/
  | moved {i : Instr} (hsel : s.sel = false) (hi : movesData i = true) (chip : Peripheral) (es : List BusEvent)
      (st : Status) (v : BitVec 32) (d : List Byte) : OpEffect s i (respond st v d (withFrames s chip es))
  /-- The timer is configured or stopped (R192, R193). -/
  | period {i : Instr} (hsel : s.sel = false) (hi : (∃ k, i = .setper k) ∨ i = .stop) (p : BitVec 16)
      (chip : Peripheral) (es : List BusEvent) :
      OpEffect s i (respond .ok 0 [] { withFrames s chip es with periodMs := p })
  /-- TICK is read and cleared (R195). -/
  | consumed (v : BitVec 32) : OpEffect s .consume (respond .ok v [] { s with tick := false })
  /-- SETUP begins (R222). -/
  | begun : OpEffect s .setup { s with fault := false, seq := .u2 }
  /-- VERIFY begins or is skipped (R225, R226). -/
  | verified (q : Seq) : OpEffect s .verify { s with seq := q }
  /-- A latched edge is serviced (R266, R197, R267). -/
  | serviced (h : serviceable s = true) (chip : Peripheral) (es : List BusEvent) :
      OpEffect s .irqsvc
        { withFrames s chip es with
          acc := s.acc + s.periodMs.setWidth 32, tick := true, irqPend := false, ctx := .main }
  /-- The command byte of an open frame goes out (R163 step 2). -/
  | commanded {i : Instr} (mode : BusMode) (addr : BitVec 4) (hi : i = .busWrite addr ∨ i = .busRead addr) :
      OpEffect s i (xferCommand mode (addr.setWidth 8) s)

section
variable {s t : State} {i : Instr} {ds : List (Option Reason)} {run : State → State}

theorem OpEffect.of_attempt (h : attempt ds run s = .next t) (hrun : OpEffect s i (run s)) : OpEffect s i t := by
  obtain ⟨r, -, rfl⟩ | ⟨-, rfl⟩ := attempt_next h
  · exact .refused r
  · exact hrun

theorem OpEffect.of_attemptBus (h : attemptBus ds run s = .next t)
    (hrun : s.sel = false → OpEffect s i (run s)) : OpEffect s i t := by
  obtain ⟨r, -, rfl⟩ | ⟨-, hsel, rfl⟩ := attemptBus_next h
  · exact .refused r
  · exact hrun hsel

theorem OpEffect.of_readAndRespond (hi : movesData i = true) (addr : Byte) (n : Nat) (value : List Byte → BitVec 32)
    (dout : List Byte → List Byte) (hsel : s.sel = false) : OpEffect s i (readAndRespond addr n value dout s) := by
  simp only [readAndRespond, busRead_withFrames]
  exact .moved hsel hi ..

theorem OpEffect.of_busWrite (hi : movesData i = true) (addr : Byte) (bytes : List Byte) (hsel : s.sel = false) :
    OpEffect s i (respond .ok 0 [] (busWrite addr bytes s)) := by
  rw [busWrite_withFrames]
  exact .moved hsel hi ..

theorem OpEffect.of_stopOrFail (hi : (∃ k, i = .setper k) ∨ i = .stop) (hsel : s.sel = false) :
    OpEffect s i (stopOrFail s) := by
  unfold stopOrFail
  split
  · exact .answered ..
  · rw [stopBody_eq]
    exact .period hsel hi ..

theorem OpEffect.of_configureOrFail (k : Byte) (hsel : s.sel = false) :
    OpEffect s (.setper k) (configureOrFail k s) := by
  unfold configureOrFail
  split
  · exact .answered ..
  · rw [configureBody_eq]
    exact .period hsel (.inl ⟨k, rfl⟩) ..

theorem OpEffect.of_cmd (kind len : Byte) (hsel : s.sel = false) :
    OpEffect s (.cmd kind len)
      ((if kind = 0 then cmdSetTime len else if kind = 1 then cmdPrintTime else endRequest) s) := by
  split
  · unfold cmdSetTime
    split
    · exact .of_busWrite rfl _ _ hsel
    · exact .answered ..
  · split
    · unfold cmdPrintTime
      split
      · exact .of_readAndRespond rfl _ _ _ _ hsel
      · exact .answered ..
    · exact .silent kind len

theorem OpEffect.of_sendCommand {mode : BusMode} {addr : BitVec 4} (h : sendCommand mode addr s = .next t)
    (hi : i = .busWrite addr ∨ i = .busRead addr) : OpEffect s i t := by
  unfold sendCommand at h
  split at h
  · cases h
    exact .commanded mode addr hi
  · cases h

theorem OpEffect.of_getper (h : execGetper s = .next t) : OpEffect s .getper t := by
  refine .of_attempt h ?_
  split
  · exact .answered ..
  · exact .answered ..

theorem OpEffect.of_setper {k : Byte} (h : execSetper k s = .next t) : OpEffect s (.setper k) t := by
  refine .of_attemptBus h fun hsel => ?_
  split
  · exact .of_stopOrFail (.inl ⟨k, rfl⟩) hsel
  · exact .of_configureOrFail k hsel

theorem OpEffect.of_verify (h : execVerify s = .next t) : OpEffect s .verify t := by
  unfold execVerify at h
  split at h <;> cases h
  · exact .verified _
  · exact .refused _

theorem OpEffect.of_irqsvc (h : execIrqsvc s = .next t) : OpEffect s .irqsvc t := by
  unfold execIrqsvc at h
  split at h <;> cases h
  · rw [runService_eq]
    exact .serviced ‹_› ..
  · exact .refused _

/-- Every operation that gives a next state has one of these effects. -/
theorem exec_effect (h : exec i s = .next t) : OpEffect s i t := by
  unfold exec at h
  cases i with
  | bcd2dec b => exact .of_attempt h (.answered ..)
  | dec2bcd d => exact .of_attempt h (.answered ..)
  | encode ts => exact .of_attempt h (.answered ..)
  | decode => exact .of_attempt h (.answered ..)
  | format => exact .of_attempt h (.answered ..)
  | rdreg addr => exact .of_attemptBus h (.of_readAndRespond rfl _ _ _ _)
  | wrreg addr v => exact .of_attemptBus h (.of_busWrite rfl addr [v])
  | brd first count => exact .of_attemptBus h (.of_readAndRespond rfl _ _ _ _)
  | bwr first count => exact .of_attemptBus h (.of_busWrite rfl first (dinOf s))
  | setper k => exact .of_setper h
  | stop => exact .of_attemptBus h (.of_stopOrFail (.inr rfl))
  | getper => exact .of_getper h
  | consume => exact .of_attempt h (.consumed _)
  | getms => exact .of_attempt h (.answered ..)
  | setup => exact .of_attempt h .begun
  | gettime => exact .of_attemptBus h (.of_readAndRespond rfl _ _ _ _)
  | getts => exact .of_attemptBus h (.of_readAndRespond rfl _ _ _ _)
  | settime => exact .of_attemptBus h (.of_busWrite rfl 0x02 (dinOf s))
  | status => exact .of_attempt h (.answered ..)
  | verify => exact .of_verify h
  | cmd kind len => exact .of_attemptBus h (.of_cmd kind len)
  | irqsvc => exact .of_irqsvc h
  | busWrite addr => exact .of_sendCommand h (.inl rfl)
  | busRead addr => exact .of_sendCommand h (.inr rfl)

/-! ### The columns of the access table (R50), over the effects of an operation -/

theorem OpEffect.periodMs_eq (h : OpEffect s i t) : t.periodMs = s.periodMs ∨ (∃ k, i = .setper k) ∨ i = .stop := by
  cases h with
  | period _ hi => exact .inr hi
  | _ => exact .inl rfl

theorem OpEffect.fault_eq (h : OpEffect s i t) : t.fault = s.fault ∨ i = .setup := by
  cases h with
  | begun => exact .inr rfl
  | _ => exact .inl rfl

theorem OpEffect.tick_eq (h : OpEffect s i t) :
    t.tick = s.tick ∨ (i = .consume ∧ t.tick = false) ∨ (i = .irqsvc ∧ serviceable s = true) := by
  cases h with
  | consumed v => exact .inr (.inl ⟨rfl, rfl⟩)
  | serviced hs => exact .inr (.inr ⟨rfl, hs⟩)
  | _ => exact .inl rfl

theorem OpEffect.acc_eq (h : OpEffect s i t) :
    t.acc = s.acc ∨ (i = .irqsvc ∧ serviceable s = true ∧ t.acc = s.acc + s.periodMs.setWidth 32) := by
  cases h with
  | serviced hs => exact .inr ⟨rfl, hs, rfl⟩
  | _ => exact .inl rfl

/-- Registers that no operation leaves changed. -/
theorem OpEffect.kept (h : OpEffect s i t) :
    t.irqWired = s.irqWired ∧ t.inited = s.inited ∧ t.cfg = s.cfg ∧ t.ie = s.ie ∧ t.sel = s.sel := by
  cases h with
  | moved hsel => exact ⟨rfl, rfl, rfl, rfl, hsel.symm⟩
  | period hsel => exact ⟨rfl, rfl, rfl, rfl, hsel.symm⟩
  | serviced hs => exact ⟨rfl, rfl, rfl, rfl, (sel_of_serviceable hs).symm⟩
  | _ => exact ⟨rfl, rfl, rfl, rfl, rfl⟩

/-- The operations R50 gives access to SEL: those that carry out transactions, and the bus command bytes. -/
inductive SelAccess : Instr → Prop where
  | data {i : Instr} (h : movesData i = true) : SelAccess i
  | setper (k : Byte) : SelAccess (.setper k)
  | stop : SelAccess .stop
  | irqsvc : SelAccess .irqsvc
  | busWrite (addr : BitVec 4) : SelAccess (.busWrite addr)
  | busRead (addr : BitVec 4) : SelAccess (.busRead addr)

theorem OpEffect.bus_eq (h : OpEffect s i t) : (t.busLog = s.busLog ∧ t.chip = s.chip) ∨ SelAccess i := by
  cases h with
  | moved _ hi => exact .inr (.data hi)
  | period _ hi =>
    obtain ⟨k, rfl⟩ | rfl := hi
    · exact .inr (.setper k)
    · exact .inr .stop
  | serviced => exact .inr .irqsvc
  | commanded _ addr hi =>
    obtain rfl | rfl := hi
    · exact .inr (.busWrite addr)
    · exact .inr (.busRead addr)
  | _ => exact .inl ⟨rfl, rfl⟩

end

/-! ### What a micro-step of SETUP can do -/

/-- The state after a later micro-step of SETUP or VERIFY (U2 to U8, V0 to V8), by the kind of effect it has. -/
inductive SetupEffect (s : State) : State → Prop where
  /-- The sequence only goes on. -/
  | goesOn (q : Seq) : SetupEffect s { s with seq := q }
  /-- A transaction. -/
  | moved (chip : Peripheral) (es : List BusEvent) (q : Seq) : SetupEffect s { withFrames s chip es with seq := q }
  /-- The timer is configured or stopped (V2, V6). -/
  | period (p : BitVec 16) (chip : Peripheral) (es : List BusEvent) (q : Seq) :
      SetupEffect s { withFrames s chip es with periodMs := p, seq := q }
  /-- The interrupt source is wired (U5). -/
  | wired (q : Seq) : SetupEffect s { s with irqWired := true, seq := q }
  /-- TICK is cleared (V1, V7). -/
  | tickCleared (q : Seq) : SetupEffect s { s with tick := false, seq := q }
  /-- The self-test fails (V4, V8). -/
  | failed (q : Seq) : SetupEffect s { s with fault := true, seq := q }
  /-- SETUP responds and the block is initialised (U8). -/
  | done : SetupEffect s (respond .ok 0 [] { s with inited := true })

section
variable (s : State)

theorem stepU2_effect : SetupEffect s (stepU2 s) := by
  simp only [stepU2, busRead_withFrames]
  exact .moved ..

theorem stepU3_effect (v : Byte) : SetupEffect s (stepU3 v s) := by
  unfold stepU3
  split
  · rw [busWrite_withFrames]
    exact .moved ..
  · exact .goesOn _

theorem stepU4_effect : SetupEffect s (stepU4 s) := by
  rw [stepU4, busWrite_withFrames]
  exact .moved ..

theorem stepU5_effect : SetupEffect s (stepU5 s) := by
  unfold stepU5
  split
  · exact .wired _
  · exact .goesOn _

theorem stepU6_effect : SetupEffect s (stepU6 s) := by
  rw [stepU6, busWrite_withFrames]
  exact .moved ..

theorem stepV2_effect : SetupEffect s (stepV2 s) := by
  rw [stepV2, configureBody_eq]
  exact .period ..

theorem stepV3_effect : SetupEffect s (stepV3 s) := by
  simp only [stepV3, busRead_withFrames]
  exact .moved ..

theorem stepV4_effect (rb : List Byte) : SetupEffect s (stepV4 rb s) := by
  unfold stepV4
  split
  · exact .goesOn _
  · exact .failed _

theorem stepV6_effect : SetupEffect s (stepV6 s) := by
  rw [stepV6, stopBody_eq]
  exact .period ..

theorem stepV8_effect (tick : Bool) : SetupEffect s (stepV8 tick s) := by
  cases tick
  · exact .failed _
  · exact .goesOn _

end

section
variable {s t : State}

/-- A HOST that moves is not refused (R262). -/
theorem not_refused_of_hostMove (h : hostMove s = .next t) : s.refused = none := by
  by_contra hr
  rw [hostMove_refused hr] at h
  cases h

/-- While SEQ is not IDLE the HOST's move is a micro-step of SETUP. -/
theorem hostMove_setupEffect (hq : s.seq ≠ .idle) (h : hostMove s = .next t) : SetupEffect s t := by
  have hr := not_refused_of_hostMove h
  cases hs : s.seq with
  | idle => exact absurd hs hq
  | u2 => cases (hostMove_u2 hr hs).symm.trans h; exact stepU2_effect s
  | u3 v => cases (hostMove_u3 hr hs).symm.trans h; exact stepU3_effect s v
  | u4 => cases (hostMove_u4 hr hs).symm.trans h; exact stepU4_effect s
  | u5 => cases (hostMove_u5 hr hs).symm.trans h; exact stepU5_effect s
  | u6 => cases (hostMove_u6 hr hs).symm.trans h; exact stepU6_effect s
  | u7 => cases (hostMove_u7 hr hs).symm.trans h; exact .goesOn _
  | v1 => cases (hostMove_v1 hr hs).symm.trans h; exact .tickCleared _
  | v2 => cases (hostMove_v2 hr hs).symm.trans h; exact stepV2_effect s
  | v3 => cases (hostMove_v3 hr hs).symm.trans h; exact stepV3_effect s
  | v4 rb => cases (hostMove_v4 hr hs).symm.trans h; exact stepV4_effect s rb
  | v5 => cases (hostMove_v5 hr hs).symm.trans h; exact .goesOn _
  | v6 => cases (hostMove_v6 hr hs).symm.trans h; exact stepV6_effect s
  | v7 => cases (hostMove_v7 hr hs).symm.trans h; exact .tickCleared _
  | v8 tick => cases (hostMove_v8 hr hs).symm.trans h; exact stepV8_effect s tick
  | u8 => cases (hostMove_u8 hr hs).symm.trans h; exact .done

theorem SetupEffect.kept (h : SetupEffect s t) :
    t.acc = s.acc ∧ t.cfg = s.cfg ∧ t.ie = s.ie ∧ (s.sel = false → t.sel = false) := by
  cases h with
  | moved => exact ⟨rfl, rfl, rfl, fun _ => rfl⟩
  | period => exact ⟨rfl, rfl, rfl, fun _ => rfl⟩
  | _ => exact ⟨rfl, rfl, rfl, id⟩

theorem SetupEffect.tick_eq (h : SetupEffect s t) : t.tick = s.tick ∨ t.tick = false := by
  cases h with
  | tickCleared => exact .inr rfl
  | _ => exact .inl rfl

end

/-! ### What a step can do -/

/-- `s` with the HOST's request and queue, the agenda and the bytes to send at other values. -/
def withInputs (s : State) (req : Option Request) (host : List Request) (agenda : List Event) (outq : List Byte) :
    State :=
  { s with req := req, host := host, agenda := agenda, outq := outq }

/-- The state after a step, by the agent that moved. -/
inductive StepEffect (s : State) : State → Prop where
  /-- An operation: a request of the HOST, an interrupt service or an open frame's command byte. -/
  | op {i : Instr} {t : State} (req : Option Request) (host : List Request) (agenda : List Event) (outq : List Byte)
      (h : OpEffect (withInputs s req host agenda outq) i t) : StepEffect s t
  /-- A request that does not decode is refused (R111, R262). -/
  | undecoded (r : Request) (rest : List Request) (reason : Reason) :
      StepEffect s (refuse reason (withInputs s (some r) rest s.agenda.tail s.outq))
  /-- A later micro-step of SETUP. -/
  | setup {t : State} (h : SetupEffect (dropEvent s) t) : StepEffect s t
  /-- The turn of an agent that does nothing: WAIT, or a HOST with no request to issue. -/
  | idle : StepEffect s (dropEvent s)
  | serviceReturn : StepEffect s (serviceReturn (dropEvent s))
  | edge : StepEffect s (edgeArrives (dropEvent s))
  | bindSecond : StepEffect s (bindSecond (dropEvent s))
  | powerOn (hsel : s.sel = false) (he : nextEvent s = .powerOn) : StepEffect s (powerOn (dropEvent s))
  /-- A data byte of an open frame (R163 step 3). -/
  | data (b : Byte) (rest : List Byte) : StepEffect s (xferData b { s with outq := rest })
  | deselect : StepEffect s (deselect s)

section
variable {s t : State}

theorem frameMove_effect (h : frameMove s = .next t) : StepEffect s t := by
  unfold frameMove at h
  split at h
  case h_1 b rest _ _ =>
    split at h
    · exact .op s.req s.host s.agenda rest (exec_effect h)
    · cases h
  case h_2 b rest _ _ =>
    split at h <;> cases h
    exact .data b rest
  case h_3 =>
    cases h
    exact .deselect

/-- Issuing a request refuses it or runs the operation it decodes to (R111). -/
theorem issue_effect {r : Request} {rest : List Request} (h : issue r { dropEvent s with host := rest } = .next t) :
    StepEffect s t := by
  unfold issue at h
  split at h
  · cases h
    exact .undecoded r rest _
  · exact .op (some r) rest s.agenda.tail s.outq (exec_effect h)

theorem hostMove_effect (h : hostMove (dropEvent s) = .next t) : StepEffect s t := by
  by_cases hq : (dropEvent s).seq = .idle
  · have hr := not_refused_of_hostMove h
    cases hh : (dropEvent s).host with
    | nil => cases (hostMove_wait hr hq hh).symm.trans h; exact .idle
    | cons r rest => exact issue_effect ((hostMove_issue hr hq hh).symm.trans h)
  · exact .setup (hostMove_setupEffect hq h)

theorem hostTurn_effect (h : hostTurn (dropEvent s) = .next t) : StepEffect s t := by
  unfold hostTurn at h
  split at h
  · cases h
    exact .serviceReturn
  · exact hostMove_effect h

/-- Every step has one of these effects. -/
theorem step_effect (h : step s = .next t) : StepEffect s t := by
  have service (h : exec .irqsvc s = .next t) : StepEffect s t :=
    .op s.req s.host s.agenda s.outq (exec_effect h)
  unfold step nextMove at h
  split at h
  · exact frameMove_effect h
  · rename_i hsel
    split at h
    case h_1 => cases h; exact .edge
    case h_2 => cases h; exact .bindSecond
    case h_3 he => cases h; exact .powerOn (by simpa using hsel) he
    case h_4 =>
      split at h
      · exact service h
      · cases h; exact .idle
    case h_5 =>
      split at h
      · exact service h
      · exact hostTurn_effect h

/-! ### The registers that only power-on sets back (R35, R39, R42, R52) -/

/-- REFUSED, INITED and IRQ_WIRED stay set, and BUSLOG and the responses only grow. -/
def KeepsSticky (s t : State) : Prop :=
  (s.refused ≠ none → t.refused ≠ none) ∧ (s.inited = true → t.inited = true) ∧
    (s.irqWired = true → t.irqWired = true) ∧ s.busLog <+: t.busLog ∧ s.responses <+: t.responses

theorem OpEffect.keepsSticky {i : Instr} (h : OpEffect s i t) : KeepsSticky s t := by
  cases h with
  | refused r => exact ⟨fun _ => Option.some_ne_none _, id, id, List.prefix_rfl, List.prefix_rfl⟩
  | answered => exact ⟨id, id, id, List.prefix_rfl, List.prefix_append ..⟩
  | moved => exact ⟨id, id, id, List.prefix_append .., List.prefix_append ..⟩
  | period => exact ⟨id, id, id, List.prefix_append .., List.prefix_append ..⟩
  | consumed => exact ⟨id, id, id, List.prefix_rfl, List.prefix_append ..⟩
  | serviced => exact ⟨id, id, id, List.prefix_append .., List.prefix_rfl⟩
  | _ => exact ⟨id, id, id, List.prefix_rfl, List.prefix_rfl⟩

theorem SetupEffect.keepsSticky (h : SetupEffect s t) : KeepsSticky s t := by
  cases h with
  | moved => exact ⟨id, id, id, List.prefix_append .., List.prefix_rfl⟩
  | period => exact ⟨id, id, id, List.prefix_append .., List.prefix_rfl⟩
  | wired => exact ⟨id, id, fun _ => rfl, List.prefix_rfl, List.prefix_rfl⟩
  | done => exact ⟨id, fun _ => rfl, id, List.prefix_rfl, List.prefix_append ..⟩
  | _ => exact ⟨id, id, id, List.prefix_rfl, List.prefix_rfl⟩

/-- A data byte changes the transaction's record and the peripheral only (R163 step 3). -/
theorem xferData_eq (b : Byte) (s : State) : ∃ chip txn, xferData b s = { s with chip := chip, txn := txn } := by
  unfold xferData
  split
  · exact ⟨s.chip, s.txn, rfl⟩
  · exact ⟨_, _, rfl⟩

/-- The end of a frame closes it and can only add to BUSLOG (R163 step 4). -/
theorem deselect_eq (s : State) :
    ∃ txn es, deselect s = { s with sel := false, txn := txn, busLog := s.busLog ++ es } := by
  unfold deselect
  split
  · exact ⟨s.txn, [], by rw [List.append_nil]⟩
  · exact ⟨none, [_], rfl⟩

theorem StepEffect.keepsSticky (h : StepEffect s t) (hp : s.sel = true ∨ nextEvent s ≠ .powerOn) :
    KeepsSticky s t := by
  cases h with
  | op _ _ _ _ h => exact h.keepsSticky
  | setup h => exact h.keepsSticky
  | undecoded => exact ⟨fun _ => Option.some_ne_none _, id, id, List.prefix_rfl, List.prefix_rfl⟩
  | bindSecond => exact ⟨fun _ => Option.some_ne_none _, id, id, List.prefix_rfl, List.prefix_rfl⟩
  | powerOn hsel he => simp [hsel, he] at hp
  | data b rest =>
    obtain ⟨_, _, h⟩ := xferData_eq b { s with outq := rest }
    rw [h]
    exact ⟨id, id, id, List.prefix_rfl, List.prefix_rfl⟩
  | deselect =>
    obtain ⟨_, _, h⟩ := deselect_eq s
    rw [h]
    exact ⟨id, id, id, List.prefix_append .., List.prefix_rfl⟩
  | _ => exact ⟨id, id, id, List.prefix_rfl, List.prefix_rfl⟩

theorem StepEffect.cfg_eq (h : StepEffect s t) : t.cfg = s.cfg := by
  cases h with
  | op _ _ _ _ h => obtain ⟨-, -, hcfg, -, -⟩ := h.kept; exact hcfg
  | setup h => obtain ⟨-, hcfg, -, -⟩ := h.kept; exact hcfg
  | data b rest => obtain ⟨_, _, h⟩ := xferData_eq b { s with outq := rest }; rw [h]
  | deselect => obtain ⟨_, _, h⟩ := deselect_eq s; rw [h]
  | _ => rfl

/-! ### The accumulator and the tick flag (R31, R33) -/

/-- From `s` to `t` ACC changes only by a service, which adds PERIOD_MS, and TICK is set only by one. -/
def ClockOnlyByService (s t : State) : Prop :=
  (t.acc ≠ s.acc → serviceable s = true ∧ t.acc = s.acc + s.periodMs.setWidth 32) ∧
    (s.tick = false → t.tick = true → serviceable s = true)

theorem ClockOnlyByService.of_eq (ha : t.acc = s.acc) (ht : t.tick = s.tick ∨ t.tick = false) :
    ClockOnlyByService s t :=
  ⟨fun h => absurd ha h, fun h0 h1 => by simp [h0, h1] at ht⟩

theorem OpEffect.clock {i : Instr} (h : OpEffect s i t) : ClockOnlyByService s t := by
  constructor
  · intro ha
    obtain h | ⟨-, h⟩ := h.acc_eq
    · exact absurd h ha
    · exact h
  · intro h0 h1
    obtain h | ⟨-, h⟩ | ⟨-, hs⟩ := h.tick_eq
    · simp [h0, h1] at h
    · simp [h1] at h
    · exact hs

theorem StepEffect.clock (h : StepEffect s t) (hp : s.sel = true ∨ nextEvent s ≠ .powerOn) :
    ClockOnlyByService s t := by
  cases h with
  | op _ _ _ _ h => exact h.clock
  | setup h => obtain ⟨hacc, -, -, -⟩ := h.kept; exact .of_eq hacc h.tick_eq
  | powerOn hsel he => simp [hsel, he] at hp
  | data b rest =>
    obtain ⟨_, _, h⟩ := xferData_eq b { s with outq := rest }
    rw [h]
    exact .of_eq rfl (.inl rfl)
  | deselect =>
    obtain ⟨_, _, h⟩ := deselect_eq s
    rw [h]
    exact .of_eq rfl (.inl rfl)
  | _ => exact .of_eq rfl (.inl rfl)

end

/-! ### The statements of the state family -/

/-- Settles O6: the HOST's turn is the HOST's move, which issues the head of the queue. -/
theorem stepRunsDecodedRequest : Obligations.StepRunsDecodedRequest := by
  intro s r rest i hturn hq hhost hdec
  have hr : s.refused = none := by obtain ⟨-, -, hr, -, -⟩ := hturn; exact hr
  rw [step_host hturn, hostMove_issue (s := dropEvent s) hr hq hhost, issue, hdec]
  rfl

/-- Settles O60: reset is at rest and idle, whatever the configuration. -/
theorem resetMeetsInvariant : Obligations.ResetMeetsInvariant :=
  ⟨⟨by decide, by decide, by decide, by decide, by decide⟩,
    rfl, rfl, rfl, rfl, rfl, rfl, by decide, rfl⟩

/-- Settles O56, by the agent that moved. -/
theorem stepKeepsStickyState : Obligations.StepKeepsStickyState := fun _ _ h =>
  ⟨(step_effect h).cfg_eq, (step_effect h).keepsSticky⟩

/-- Settles O57, by the agent that moved. -/
theorem onlyServiceAdvancesClock : Obligations.OnlyServiceAdvancesClock := fun _ _ h =>
  (step_effect h).clock

/-- Settles O58: the columns of the table over the effects of an operation, then over those of a micro-step. -/
theorem accessRights : Obligations.AccessRights := by
  constructor
  · intro i s t h
    have e := exec_effect h
    obtain ⟨hwired, hinited, hcfg, hie, hsel⟩ := e.kept
    refine ⟨e.periodMs_eq.resolve_left, e.fault_eq.resolve_left, fun ht => ?_, fun ha => ?_, hwired, hinited, hcfg,
      hie, hsel, fun hi => e.bus_eq.resolve_right fun access => ?_⟩
    · exact (e.tick_eq.resolve_left ht).imp And.left And.left
    · exact (e.acc_eq.resolve_left ha).1
    · cases access with
      | data hd => cases i <;> cases hd <;> exact hi
      | _ => exact hi
  · intro s t hturn hq h
    rw [step_host hturn] at h
    obtain ⟨hacc, hcfg, hie, hsel⟩ := (hostMove_setupEffect (s := dropEvent s) hq h).kept
    exact ⟨hacc, hcfg, hie, hsel hturn.1⟩

end Sys2Proof.Machine
end

section
/-! PROOFS. The memory family: what the checks of an address and of a burst answer, and what a reading transaction
returns while the draws to come are known; then the statements about spec/20_memory.md. -/

namespace Sys2Proof.Machine

open Sys2Proof.Safety

/-! ### The checks before a bus operation -/

section
variable {s : State} {ds : List (Option Reason)} {run : State → State}

/-- The check after that of DIN is the first that can answer once DIN has the operation's length, and it answers
whether or not a frame is open (R270). -/
theorem attemptBus_rejected {i : Instr} {d : Option Reason} {r : Reason} (hdin : (dinOf s).length = dinLength i)
    (hd : d = some r) : attemptBus (dinDefect i s :: d :: ds) run s = .next (rejected s r) := by
  rw [attemptBus, (dinDefect_eq_none i s).mpr hdin, hd]
  rfl

theorem attemptBus_run (h : firstDefect ds = none) (hsel : s.sel = false) :
    attemptBus ds run s = .next (run s) := by
  simp [attemptBus, h, hsel]

end

theorem addrDefect_past {a : Byte} (h : lastRegister < a.toNat) : addrDefect a = some .badAddress :=
  if_neg (Nat.not_le.mpr h)

theorem burstDefect_zero (a : Byte) : burstDefect a 0 = some .badCount := rfl

theorem burstDefect_past {a n : Byte} (hn : n.toNat ≠ 0) (h : lastRegister + 1 < a.toNat + n.toNat) :
    burstDefect a n = some .badAddress := by
  rw [burstDefect, if_neg hn, if_neg (by omega)]

/-! ### What a bus read returns while draws are listed (R80) -/

/-- An exchange answers the first listed draw, whatever register it is for, and uses it up. -/
theorem Peripheral.receive_draws {p : Peripheral} {b : Byte} {coming : List Byte}
    (h : p.answers = .draws (b :: coming)) (reg : Option Nat) :
    p.receive reg = (b, { p with answers := .draws coming }) := by
  simp only [Peripheral.receive, h]

/-- The data phase of a read answers the listed draws in order, one for each byte sent. -/
theorem Peripheral.exchange_read_draws (coming : List Byte) :
    ∀ (data outs : List Byte) (ptr : Nat) (p : Peripheral), outs.length = data.length →
      p.answers = .draws (data ++ coming) →
      Peripheral.exchange .read ptr outs p = (data, { p with answers := .draws coming }) := by
  intro data
  induction data with
  | nil =>
    intro outs ptr p hlen hp
    rw [List.eq_nil_of_length_eq_zero hlen, Peripheral.exchange, ← (show p.answers = .draws coming from hp)]
  | cons d data ih =>
    intro outs ptr p hlen hp
    obtain ⟨o, outs, rfl⟩ := List.exists_cons_of_length_eq_add_one hlen
    simp only [Peripheral.exchange, Peripheral.receive_draws hp, Peripheral.store_read]
    rw [ih outs (ptr + 1) _ (Nat.succ.inj hlen) rfl]

/-- The first draw answers the command byte and the others are the data read. -/
theorem busRead_draws {addr c : Byte} {data coming : List Byte} {s : State} (haddr : addr.toNat < 2 ^ addrWidth)
    (h : s.chip.answers = .draws (c :: (data ++ coming))) :
    busRead addr data.length s =
      (data, withFrames s { s.chip with answers := .draws coming } [readEvent s addr c data]) := by
  have hcmd : s.chip.receive none = (c, { s.chip with answers := .draws (data ++ coming) }) :=
    Peripheral.receive_draws h none
  have hdata : Peripheral.exchange .read addr.toNat (List.replicate data.length 0x00) s.chip.addressed =
      (data, { s.chip with answers := .draws coming }) := by
    rw [Peripheral.addressed, hcmd]
    exact Peripheral.exchange_read_draws coming data _ _ _ List.length_replicate rfl
  simp only [busRead_withFrames, Peripheral.after, eventOf, Peripheral.sentBack, hdata, hcmd, commandByte_eq _ _ haddr,
    readEvent]

/-! ### The bus operations as checks before a body (R166 to R169) -/

section
variable (a n : Byte) (s : State)

theorem exec_rdreg : exec (.rdreg a) s =
    attemptBus [dinDefect (.rdreg a) s, addrDefect a, initDefect s]
      (readAndRespond a 1 (fun bytes => (bytes.getD 0 0).setWidth 32) (fun _ => [])) s := rfl

theorem exec_wrreg : exec (.wrreg a n) s =
    attemptBus [dinDefect (.wrreg a n) s, addrDefect a, initDefect s]
      (fun s => respond .ok 0 [] (busWrite a [n] s)) s := rfl

theorem exec_brd : exec (.brd a n) s =
    attemptBus [dinDefect (.brd a n) s, burstDefect a n, initDefect s]
      (readAndRespond a n.toNat (fun _ => 0) (fun bytes => bytes)) s := rfl

theorem exec_bwr : exec (.bwr a n) s =
    attemptBus [dinDefect (.bwr a n) s, burstDefect a n, initDefect s]
      (fun s => respond .ok 0 [] (busWrite a (dinOf s) s)) s := rfl

end

/-- A legal burst read responds with the bytes read (R168). -/
theorem exec_brd_legal {first count : Byte} {s : State} (hdin : dinOf s = []) (hcount : count.toNat ≠ 0)
    (hlast : first.toNat + count.toNat ≤ lastRegister + 1) (hinit : s.inited = true) (hsel : s.sel = false) :
    exec (.brd first count) s =
      .next (answered (busRead first count.toNat s).2 .ok 0 (busRead first count.toNat s).1) := by
  have hlen : (dinOf s).length = dinLength (.brd first count) := by rw [hdin, dinLength, List.length_nil]
  rw [exec_brd, (dinDefect_eq_none _ s).mpr hlen, (burstDefect_eq_none first count).mpr ⟨hcount, hlast⟩,
    (initDefect_eq_none s).mpr hinit, attemptBus_run rfl hsel]
  rfl

/-! ### The statements of the memory family -/

/-- Settles O22: DIN has the operation's length in each clause, so the check of the address or of the burst answers. -/
theorem illegalAddressesRefused : Obligations.IllegalAddressesRefused := by
  intro a n s
  have hempty (h : dinOf s = []) : (dinOf s).length = 0 := by rw [h, List.length_nil]
  rw [exec_rdreg, exec_wrreg, exec_brd, exec_bwr]
  refine ⟨fun hdin ha => ?_, fun hn hdin => ?_, fun hn hlast => ?_⟩
  · have hbad := addrDefect_past ha
    exact ⟨attemptBus_rejected (hempty hdin) hbad, attemptBus_rejected (hempty hdin) hbad⟩
  · subst hn
    have hbad := burstDefect_zero a
    exact ⟨attemptBus_rejected (hempty hdin) hbad, attemptBus_rejected (hempty hdin) hbad⟩
  · have hbad := burstDefect_past (BitVec.toNat_ne_iff_ne.mpr hn) hlast
    exact ⟨fun hdin => attemptBus_rejected (hempty hdin) hbad, fun hlen => attemptBus_rejected hlen hbad⟩

/-- Settles O24: a legal burst read is one `busRead`, and that takes the listed draws in order. -/
theorem readsReturnTheDraws : Obligations.ReadsReturnTheDraws := by
  intro first count c data coming s hdin hcount hlast hinit hsel hlen hdraws
  have haddr : first.toNat < 2 ^ addrWidth := by rw [addrWidth]; omega
  rw [exec_brd_legal hdin (BitVec.toNat_ne_iff_ne.mpr hcount) hlast hinit hsel, ← hlen, busRead_draws haddr hdraws]

end Sys2Proof.Machine
end

section
/-! PROOFS. The encoding family: the opcode map as a list of rows with distinct OP values, what the decoder and the
encoder make of a row, the bus command bytes, and the check of the DIN length; then the statements about
spec/30_encoding.md. -/

namespace Sys2Proof

/-! ### The opcode map (R108) -/

section
variable {q r : OpRow} {w : ReqWord} {i : Instr} {op a b : Byte} {t : BitVec 32}

/-- No OP value stands in two rows. -/
theorem opRows_eq_of_op_eq (hq : q ∈ opRows) (hr : r ∈ opRows) (h : q.op = r.op) : q = r :=
  List.inj_on_of_nodup_map (f := OpRow.op) (by decide) hq hr h

theorem find?_opRows_eq_some_iff : opRows.find? (fun q => q.op == op) = some r ↔ r ∈ opRows ∧ r.op = op := by
  constructor
  · intro h
    exact ⟨List.mem_of_find?_eq_some h, by simpa using List.find?_some h⟩
  · rintro ⟨hr, rfl⟩
    have hsome : (opRows.find? (fun q => q.op == r.op)).isSome := List.find?_isSome.mpr ⟨r, hr, beq_self_eq_true _⟩
    obtain ⟨q, hq⟩ := Option.isSome_iff_exists.mp hsome
    rw [hq, opRows_eq_of_op_eq (List.mem_of_find?_eq_some hq) hr (by simpa using List.find?_some hq)]

/-- The fields that a row does not use are 0 (R104). -/
def OpRow.Fits (r : OpRow) (a b : Byte) (t : BitVec 32) : Prop :=
  (r.usesA = false → a = 0) ∧ (r.usesB = false → b = 0) ∧ (r.usesT = false → t = 0)

theorem OpRow.unusedZero_iff : r.unusedZero w = true ↔ rsvOf w = 0 ∧ r.Fits (aOf w) (bOf w) (tOf w) := by
  simp [OpRow.unusedZero, OpRow.Fits, and_assoc, or_iff_not_imp_left]

theorem ite_used_eq {n : Nat} {x : BitVec n} {used : Bool} (h : used = false → x = 0) :
    (if used then x else 0) = x := by
  cases used with
  | false => exact (h rfl).symm
  | true => rfl

/-- The encoder gives the operation a row builds the row's OP and the fields it was built from. -/
theorem encodeInstr_build (hr : r ∈ opRows) (h : r.Fits a b t) : encodeInstr (r.build a b t) = mkReq r.op a b t := by
  obtain ⟨ha, hb, ht⟩ := h
  have rows : ∀ r ∈ opRows, encodeInstr (r.build a b t) =
      mkReq r.op (if r.usesA then a else 0) (if r.usesB then b else 0) (if r.usesT then t else 0) := by
    simp [opRows, encodeInstr]
  rw [rows r hr, ite_used_eq ha, ite_used_eq hb, ite_used_eq ht]

/-- The words the table reading accepts, and what it reads from them. -/
theorem decodeWord_eq_ok_iff :
    decodeWord w = .ok i ↔
      ∃ r ∈ opRows, r.op = opOf w ∧ r.unusedZero w = true ∧ r.build (aOf w) (bOf w) (tOf w) = i := by
  unfold decodeWord
  constructor
  · intro h
    split at h
    · cases h
    · rename_i r hfind
      obtain ⟨hr, hop⟩ := find?_opRows_eq_some_iff.mp hfind
      split at h <;> cases h
      exact ⟨r, hr, hop, ‹_›, rfl⟩
  · rintro ⟨r, hr, hop, hzero, rfl⟩
    rw [find?_opRows_eq_some_iff.mpr ⟨hr, hop⟩]
    exact if_pos hzero

theorem decodeWord_of_unused_nonzero (hr : r ∈ opRows) (hop : r.op = opOf w) (h : r.unusedZero w = false) :
    decodeWord w = .error .reservedField := by
  rw [decodeWord, find?_opRows_eq_some_iff.mpr ⟨hr, hop⟩]
  exact if_neg (Bool.not_eq_true _ ▸ h)

theorem decodeWord_of_op_not_mem (h : opOf w ∉ opRows.map OpRow.op) : decodeWord w = .error .reservedOp := by
  have hfind : opRows.find? (fun q => q.op == opOf w) = none := by
    rw [List.find?_eq_none]
    intro q hq hop
    exact h (List.mem_map.mpr ⟨q, hq, eq_of_beq hop⟩)
  rw [decodeWord, hfind]

/-! ### Encoder and decoder -/

/-- A word put together from fields that fit a row is read as the row's operation. -/
theorem decodeCode_mkReq (hfind : opRows.find? (fun q => q.op == op) = some r) (hfits : r.Fits a b t)
    (hbuild : r.build a b t = i) : decodeCode (mkReq op a b t) = .ok i := by
  obtain ⟨hr, hop⟩ := find?_opRows_eq_some_iff.mp hfind
  obtain ⟨hop', ha, hb, hrsv, ht⟩ := word_fields op a b t
  refine decodeWord_eq_ok_iff.mpr ⟨r, hr, hop.trans hop'.symm, OpRow.unusedZero_iff.mpr ⟨hrsv, ?_⟩, ?_⟩
  · rwa [ha, hb, ht]
  · rwa [ha, hb, ht]

/-- The encoder gives back every bit of an accepted word. -/
theorem encodeInstr_of_decodeWord (h : decodeWord w = .ok i) : encodeInstr i = .req w := by
  obtain ⟨r, hr, hop, hzero, rfl⟩ := decodeWord_eq_ok_iff.mp h
  obtain ⟨hrsv, hfits⟩ := OpRow.unusedZero_iff.mp hzero
  have hw := word_split w
  rw [hrsv] at hw
  rw [encodeInstr_build hr hfits, hop, mkReq]
  exact congrArg Code.req hw.symm

end

/-! ### Bus command bytes (R113, R114) -/

/-- A byte is its high nibble and its low nibble. -/
theorem highNibble_or_lowNibble (b : Byte) : (b &&& 0xF0) ||| (b.extractLsb' 0 4).setWidth 8 = b := by
  ext i hi
  interval_cases i <;> simp

/-- A byte with the high nibble of a mask is the mask's command byte for its low nibble. -/
theorem busCommand_lowNibble {mask b : Byte} (hmask : mask &&& 0xF0 = mask) (h : b &&& 0xF0 = mask &&& 0xF0) :
    busCommand mask (addrField ((b.extractLsb' 0 4).setWidth 8)) = b := by
  have hsmall : ((b.extractLsb' 0 4).setWidth 8 : Byte).toNat < 2 ^ addrWidth := by
    have := (b.extractLsb' 0 4).isLt
    rw [BitVec.toNat_setWidth, addrWidth]
    omega
  rw [Machine.busCommand_addrField mask hsmall, ← hmask, ← h, highNibble_or_lowNibble]

theorem encodeInstr_of_decodeBusDefault {b : Byte} {i : Instr} (h : decodeBusDefault b = some i) :
    encodeInstr i = .bus b := by
  unfold decodeBusDefault decodeBus at h
  split at h
  · cases h
    exact congrArg Code.bus (busCommand_lowNibble rfl ‹_›)
  · split at h <;> cases h
    exact congrArg Code.bus (busCommand_lowNibble rfl ‹_›)

theorem decodeCode_busWrite : ∀ addr : BitVec 4, decodeCode (encodeInstr (.busWrite addr)) = .ok (.busWrite addr) := by
  decide

theorem decodeCode_busRead : ∀ addr : BitVec 4, decodeCode (encodeInstr (.busRead addr)) = .ok (.busRead addr) := by
  decide

/-! ### The used fields of R108, as lists of OP values -/

/-- The OP values of the rows that pass a test, in the order of the map. -/
def opsWith (f : OpRow → Bool) : List Byte := (opRows.filter f).map OpRow.op

theorem mem_opsWith {f : OpRow → Bool} {r : OpRow} (hr : r ∈ opRows) : r.op ∈ opsWith f ↔ f r = true := by
  rw [opsWith, List.mem_map]
  constructor
  · rintro ⟨q, hq, hop⟩
    obtain ⟨hq, hf⟩ := List.mem_filter.mp hq
    rwa [← opRows_eq_of_op_eq hq hr hop]
  · exact fun hf => ⟨r, List.mem_filter.mpr ⟨hr, hf⟩, rfl⟩

theorem exists_row_of_mem_opsWith {f : OpRow → Bool} {op : Byte} (h : op ∈ opsWith f) : ∃ r ∈ opRows, r.op = op := by
  obtain ⟨r, hr, hop⟩ := List.mem_map.mp h
  exact ⟨r, List.mem_of_mem_filter hr, hop⟩

/-- Which field of a word stands in the way of its row (R104). -/
theorem unusedZero_eq_false_iff {r : OpRow} {w : ReqWord} (hr : r ∈ opRows) (hop : r.op = opOf w) :
    r.unusedZero w = false ↔
      rsvOf w ≠ 0 ∨ (opOf w ∉ opsWith OpRow.usesA ∧ aOf w ≠ 0) ∨ (opOf w ∉ opsWith OpRow.usesB ∧ bOf w ≠ 0) ∨
        (opOf w ∉ opsWith OpRow.usesT ∧ tOf w ≠ 0) := by
  rw [← hop, mem_opsWith hr, mem_opsWith hr, mem_opsWith hr]
  simp [OpRow.unusedZero, or_assoc, imp_iff_not_or]

/-- R111 steps (1) to (3) in terms of the rows of the map. -/
theorem decodeRequest_order (w : ReqWord) :
    if opOf w = 0x3F ∨ opOf w = 0xF0 then decodeRequest w = .error .internalOp
    else if opOf w ∉ opsWith (fun r => !internalOp r.op) then decodeRequest w = .error .reservedOp
    else if rsvOf w ≠ 0 ∨ (opOf w ∉ opsWith OpRow.usesA ∧ aOf w ≠ 0) ∨ (opOf w ∉ opsWith OpRow.usesB ∧ bOf w ≠ 0) ∨
        (opOf w ∉ opsWith OpRow.usesT ∧ tOf w ≠ 0)
    then decodeRequest w = .error .reservedField
    else ∃ i, decodeRequest w = .ok i ∧ encodeInstr i = .req w := by
  have hinternal : opOf w = 0x3F ∨ opOf w = 0xF0 ↔ internalOp (opOf w) = true := by simp [internalOp]
  simp only [hinternal, decodeRequest]
  split_ifs with hint hop hused
  · rfl
  · obtain ⟨r, hr, hrop⟩ := exists_row_of_mem_opsWith hop
    exact decodeWord_of_unused_nonzero hr hrop ((unusedZero_eq_false_iff hr hrop).mpr hused)
  · obtain ⟨r, hr, hrop⟩ := exists_row_of_mem_opsWith hop
    have hzero : r.unusedZero w = true := by rwa [← unusedZero_eq_false_iff hr hrop, Bool.not_eq_false] at hused
    have hok := decodeWord_eq_ok_iff.mpr ⟨r, hr, hrop, hzero, rfl⟩
    exact ⟨_, hok, encodeInstr_of_decodeWord hok⟩
  · refine decodeWord_of_op_not_mem fun hmem => hop ?_
    obtain ⟨r, hr, hrop⟩ := List.mem_map.mp hmem
    rw [← hrop, mem_opsWith hr, hrop]
    simpa using hint

end Sys2Proof

namespace Sys2Proof.Machine

open Sys2Proof.Safety

/-! ### The DIN length (R107, R111 step 4) -/

section
variable {s : State} {i : Instr}

/-- The operations that a request of the HOST can name (R108, R110). -/
def hostOperation : Instr → Bool
  | .verify => false
  | .irqsvc => false
  | .busWrite _ => false
  | .busRead _ => false
  | _ => true

theorem dinDefect_badLength (h : (dinOf s).length ≠ dinLength i) : dinDefect i s = some .badLength := if_neg h

/-- The first check of every operation of the HOST is that of its DIN length. -/
theorem exec_checks_din (hi : hostOperation i = true) :
    (∃ ds run, exec i s = attempt (dinDefect i s :: ds) run s) ∨
      ∃ ds run, exec i s = attemptBus (dinDefect i s :: ds) run s := by
  unfold exec
  cases i with
  | bcd2dec b => exact .inl ⟨_, _, rfl⟩
  | dec2bcd d => exact .inl ⟨_, _, rfl⟩
  | encode t => exact .inl ⟨_, _, rfl⟩
  | decode => exact .inl ⟨_, _, rfl⟩
  | format => exact .inl ⟨_, _, rfl⟩
  | rdreg addr => exact .inr ⟨_, _, rfl⟩
  | wrreg addr v => exact .inr ⟨_, _, rfl⟩
  | brd first count => exact .inr ⟨_, _, rfl⟩
  | bwr first count => exact .inr ⟨_, _, rfl⟩
  | setper k => exact .inr ⟨_, _, rfl⟩
  | stop => exact .inr ⟨_, _, rfl⟩
  | getper => exact .inl ⟨_, _, rfl⟩
  | consume => exact .inl ⟨_, _, rfl⟩
  | getms => exact .inl ⟨_, _, rfl⟩
  | setup => exact .inl ⟨_, _, rfl⟩
  | gettime => exact .inr ⟨_, _, rfl⟩
  | getts => exact .inr ⟨_, _, rfl⟩
  | settime => exact .inr ⟨_, _, rfl⟩
  | status => exact .inl ⟨_, _, rfl⟩
  | cmd kind len => exact .inr ⟨_, _, rfl⟩
  | verify => cases hi
  | irqsvc => cases hi
  | busWrite addr => cases hi
  | busRead addr => cases hi

/-- A wrong DIN length is refused before anything else is looked at (R107, R270). -/
theorem exec_badLength (hi : hostOperation i = true) (h : (dinOf s).length ≠ dinLength i) :
    exec i s = .next (rejected s .badLength) := by
  obtain ⟨ds, run, he⟩ | ⟨ds, run, he⟩ := exec_checks_din (s := s) hi
  · rw [he, attempt, dinDefect_badLength h]
    rfl
  · rw [he, attemptBus, dinDefect_badLength h]
    rfl

end

/-! ### The command byte of an open frame (R113, R163 step 2) -/

section
variable (mode : BusMode) (addr : BitVec 4) (s : State)

theorem sendCommand_begins (hsel : s.sel = true) (htxn : s.txn = none) :
    sendCommand mode addr s = .next { s with
      chip := s.chip.addressed
      txn := some ⟨mode, addr.setWidth 8, addr.toNat, [commandByte s.cfg mode (addr.setWidth 8)],
        [(s.chip.receive none).1]⟩ } := by
  have hptr : (addr.setWidth 8 : Byte).toNat = addr.toNat := BitVec.toNat_setWidth_of_le (by decide)
  rw [sendCommand, if_pos (by simp [hsel, htxn]), xferCommand, hptr]
  rfl

theorem sendCommand_noFrame (h : s.sel = false ∨ s.txn ≠ none) : sendCommand mode addr s = .fault .noFrame := by
  refine if_neg ?_
  cases htxn : s.txn <;> simp_all

end

/-- The four bits of a command byte's operand are an address the six-bit field holds. -/
theorem setWidth_addr_lt (addr : BitVec 4) : (addr.setWidth 8 : Byte).toNat < 2 ^ addrWidth := by
  rw [BitVec.toNat_setWidth_of_le (by decide), addrWidth]
  have := addr.isLt
  omega

theorem exec_busWrite (addr : BitVec 4) (s : State) : exec (.busWrite addr) s = sendCommand .write addr s := rfl
theorem exec_busRead (addr : BitVec 4) (s : State) : exec (.busRead addr) s = sendCommand .read addr s := rfl

/-! ### The statements of the encoding family -/

/-- Settles O1: a request word is put together from fields that fit its operation's row. -/
theorem decodeInvertsEncode : Obligations.DecodeInvertsEncode := by
  intro i
  cases i with
  | busWrite addr => exact decodeCode_busWrite addr
  | busRead addr => exact decodeCode_busRead addr
  | _ => exact decodeCode_mkReq rfl (by simp [OpRow.Fits]) rfl

/-- Settles O2, for a request word and for a bus command byte. -/
theorem encodeInvertsDecode : Obligations.EncodeInvertsDecode := by
  intro c i h
  cases c with
  | req w => exact encodeInstr_of_decodeWord h
  | bus b =>
    rw [decodeCode] at h
    split at h <;> cases h
    exact encodeInstr_of_decodeBusDefault ‹_›

/-- Settles O3: its four lists are those of the opcode map. -/
theorem requestDecodingOrder : Obligations.RequestDecodingOrder := decodeRequest_order

/-- Settles O4: the DIN length is the first check of every operation the statement names. -/
theorem wrongDinLengthRefused : Obligations.WrongDinLengthRefused := by
  intro s
  refine ⟨fun i hi hlen => ?_, fun a n hlen => ⟨exec_badLength rfl hlen, exec_badLength rfl hlen⟩, fun hdin => ?_⟩
  · have hseven : ∀ i ∈ [Instr.decode, .format, .settime], hostOperation i = true ∧ dinLength i = 7 := by decide
    obtain ⟨hop, hdl⟩ := hseven i hi
    exact exec_badLength hop (hdl ▸ hlen)
  · have hne : (dinOf s).length ≠ 0 := by simpa using hdin
    have hnone {i : Instr} : hostOperation i = true ∧ dinLength i = 0 → exec i s = .next (rejected s .badLength) :=
      fun ⟨hop, hdl⟩ => exec_badLength hop (hdl ▸ hne)
    refine ⟨fun a b i hi => hnone ?_, fun t => hnone ⟨rfl, rfl⟩, fun i hi => hnone ?_⟩
    · revert i
      simp [hostOperation, dinLength]
    · revert i
      decide

/-- Settles O27: an open frame takes the command byte, and its exchange stores nothing. -/
theorem commandByteBeginsTransaction : Obligations.CommandByteBeginsTransaction := by
  intro a s
  simp only [exec_busWrite, exec_busRead]
  refine ⟨fun hsel htxn => ?_, fun h => ⟨sendCommand_noFrame .write a s h, sendCommand_noFrame .read a s h⟩⟩
  have hkept : SameRegisters s.chip s.chip.addressed := fun _ => by rw [Peripheral.addressed_preg]
  refine ⟨⟨(s.chip.receive none).1, s.chip.addressed, ?_, hkept⟩, ⟨(s.chip.receive none).1, s.chip.addressed, ?_, hkept⟩⟩
  · rw [sendCommand_begins .write a s hsel htxn, commandByte_eq _ _ (setWidth_addr_lt a)]
  · rw [sendCommand_begins .read a s hsel htxn, commandByte_eq _ _ (setWidth_addr_lt a)]

/-- Settles O5, by running the decoder on the eight words. -/
theorem specWordsDecode : Obligations.SpecWordsDecode :=
  ⟨rfl, rfl, rfl, rfl, rfl, rfl, rfl, rfl⟩

/-- Settles O8: U7 is the HOST's move, a serviceable edge goes first, and an open frame sends its command byte. -/
theorem stepRunsInternalCodes : Obligations.StepRunsInternalCodes := by
  intro s
  refine ⟨fun hturn hq => ?_, fun hs he => ?_, fun b rest i hsel htxn hout hdec => ?_⟩
  · have hr : s.refused = none := by obtain ⟨-, -, hr, -, -⟩ := hturn; exact hr
    rw [step_host hturn, hostMove_u7 (s := dropEvent s) hr hq]
    exact (if_pos hq).symm
  · rw [step_service he hs]
    exact (if_pos hs).symm
  · rw [step_frame hsel, frameMove, htxn, hout]
    simp only [hdec]

end Sys2Proof.Machine
end

section
/-! PROOFS. The time codec family: the word of R119, what each codec operation answers once DIN has its length, the
decimal value of a BCD byte, the timestamp as a sum of its fields, and the decimal text of a value; then the statements
about spec/41_time_codec.md. -/

namespace Sys2Proof.Machine

open Sys2Proof.Safety

/-! ### The word of a request (R119) -/

/-- The word of R119 is {T, 0, B, A, OP}. -/
theorem reqWord_eq (op a b : Byte) (t : BitVec 32) : reqWord op a b t = t ++ 0#8 ++ b ++ a ++ op := by
  have hparts : (t ++ 0#8 ++ b ++ a ++ op).setWidth 64 = reqWord op a b t := by
    simp only [reqWord, BitVec.setWidth_append_eq_shiftLeft_setWidth_or, BitVec.shiftLeft_or_distrib,
      ← BitVec.shiftLeft_add, BitVec.setWidth_zero, BitVec.or_zero]
  rw [← hparts, BitVec.setWidth_eq]

/-- A word whose OP is no internal code is decoded by the table alone (R111). -/
theorem decodeRequest_reqWord {op a b : Byte} {t : BitVec 32} {i : Instr} (hop : internalOp op = false)
    (h : decodeCode (mkReq op a b t) = .ok i) : decodeRequest (reqWord op a b t) = .ok i := by
  have hopOf : opOf (reqWord op a b t) = op := by
    rw [reqWord_eq]
    exact (word_fields op a b t).1
  rw [decodeRequest, hopOf, hop, reqWord_eq]
  exact h

/-! ### What each codec operation answers -/

section
variable {s : State}

/-- An operation whose only check is that of its DIN length answers once DIN has it. -/
theorem attempt_answers {i : Instr} {v : BitVec 32} {out : List Byte} (hdin : (dinOf s).length = dinLength i) :
    attempt [dinDefect i s] (respond .ok v out) s = .next (answered s .ok v out) := by
  rw [attempt, (dinDefect_eq_none i s).mpr hdin]
  rfl

theorem exec_bcd2dec (b : Byte) (hdin : dinOf s = []) :
    exec (.bcd2dec b) s = .next (answered s .ok (BitVec.ofNat 32 (bcdToDec b)) []) :=
  attempt_answers (congrArg List.length hdin)

theorem exec_dec2bcd (d : Byte) (hdin : dinOf s = []) :
    exec (.dec2bcd d) s = .next (answered s .ok ((decToBcd d.toNat).setWidth 32) []) :=
  attempt_answers (congrArg List.length hdin)

theorem exec_encode (t : BitVec 32) (hdin : dinOf s = []) :
    exec (.encode t) s = .next (answered s .ok 0 (recordBytes (encodeTime s.cfg.weekday t))) :=
  attempt_answers (congrArg List.length hdin)

theorem exec_decode {r : TimeRecord} (hdin : dinOf s = recordBytes r) :
    exec .decode s = .next (answered s .ok (decodeTime s.cfg.decodeMasks r) []) := by
  have hrec : recordOf (dinOf s) = r := by rw [hdin]; rfl
  have h : exec .decode s = .next (answered s .ok (decodeTime s.cfg.decodeMasks (recordOf (dinOf s))) []) :=
    attempt_answers (congrArg List.length hdin)
  rwa [hrec] at h

theorem exec_format {r : TimeRecord} (hdin : dinOf s = recordBytes r) :
    exec .format s = .next (answered s .ok 0 (formatRecord r)) := by
  have hrec : recordOf (dinOf s) = r := by rw [hdin]; rfl
  have h : exec .format s = .next (answered s .ok 0 (formatRecord (recordOf (dinOf s)))) :=
    attempt_answers (congrArg List.length hdin)
  rwa [hrec] at h

end

/-! ### BCD bytes (R117, R140, R141) -/

theorem bcdValue_eq_bcdToDec (b : Byte) : bcdValue b = bcdToDec b := by
  have hhigh : (b.extractLsb' 4 4).toNat = b.toNat / 16 := by
    rw [BitVec.extractLsb'_toNat, Nat.shiftRight_eq_div_pow]
    omega
  have hlow : (b.extractLsb' 0 4).toNat = b.toNat % 16 := by
    rw [BitVec.extractLsb'_toNat, Nat.shiftRight_zero]
  rw [bcdValue, bcdToDec, hhigh, hlow]

theorem bcdToDec_le (b : Byte) : bcdToDec b ≤ 165 := by
  have := b.isLt
  rw [bcdToDec]
  omega

/-- The tens digit keeps its low nibble only. -/
theorem decToBcd_toNat (d : Nat) : (decToBcd d).toNat = 16 * (d / 10 % 16) + d % 10 := by
  rw [decToBcd, BitVec.toNat_ofNat]
  omega

/-- Sixteen tens fit a nibble, so the value comes back modulo 160. -/
theorem bcdToDec_decToBcd (d : Nat) : bcdToDec (decToBcd d) = d % 160 := by
  rw [bcdToDec, decToBcd_toNat]
  omega

/-- A valid BCD byte is the packing of its value. -/
theorem decToBcd_bcdToDec {b : Byte} {lo hi : Nat} (h : validBcd b lo hi) : decToBcd (bcdToDec b) = b := by
  obtain ⟨htens, hunits, -, -⟩ := h
  apply BitVec.eq_of_toNat_eq
  rw [decToBcd_toNat, bcdToDec]
  omega

theorem bcdToDec_mem_range {b : Byte} {lo hi : Nat} (h : validBcd b lo hi) : lo ≤ bcdToDec b ∧ bcdToDec b ≤ hi := by
  obtain ⟨-, -, hrange⟩ := h
  rwa [bcdValue_eq_bcdToDec] at hrange

/-! ### The timestamp and its fields (R142, R143) -/

/-- The successive divisions of R142, each as one division of the timestamp. -/
theorem encodeTime_eq (weekday : Byte) (t : BitVec 32) :
    encodeTime weekday t =
      { seconds := decToBcd (t.toNat % 60)
        minutes := decToBcd (t.toNat / 60 % 60)
        hours := decToBcd (t.toNat / 3600 % 24)
        day := decToBcd (t.toNat / 86400 % 31 + 1)
        weekday := weekday
        month := decToBcd (t.toNat / 2678400 % 12 + 1)
        year := decToBcd (t.toNat / 32140800) } := by
  simp only [encodeTime, Nat.div_div_eq_div_mul]

/-- The masks under which DECODE reads every bit (the default of DECODE_MASKS, R7). -/
def allMasks : TimeRecord := ⟨0xFF, 0xFF, 0xFF, 0xFF, 0xFF, 0xFF, 0xFF⟩

theorem decodeSum_allMasks (r : TimeRecord) :
    decodeSum allMasks r =
      (bcdToDec r.seconds : Int) + (bcdToDec r.minutes : Int) * 60 + (bcdToDec r.hours : Int) * 3600
        + ((bcdToDec r.day : Int) - 1) * 86400 + ((bcdToDec r.month : Int) - 1) * 2678400
        + (bcdToDec r.year : Int) * 32140800 := by
  have hand (b : Byte) : b &&& 0xFF = b := BitVec.and_allOnes
  simp only [decodeSum, allMasks, hand]

/-- The fields of a timestamp add up to it, and each is small enough for one byte. -/
theorem decodeSum_encodeTime (weekday : Byte) (t : BitVec 32) :
    decodeSum allMasks (encodeTime weekday t) = (t.toNat : Int) := by
  have := t.isLt
  simp only [decodeSum_allMasks, encodeTime_eq, bcdToDec_decToBcd]
  omega

theorem decodeTime_encodeTime (weekday : Byte) (t : BitVec 32) :
    decodeTime allMasks (encodeTime weekday t) = t := by
  rw [decodeTime, decodeSum_encodeTime, BitVec.ofInt_natCast, BitVec.ofNat_toNat, BitVec.setWidth_eq]

/-- The ranges of R45 on the decimal values of the fields that DECODE reads. -/
theorem validRecord_ranges {r : TimeRecord} (h : ValidRecord r) :
    bcdToDec r.seconds ≤ 59 ∧ bcdToDec r.minutes ≤ 59 ∧ bcdToDec r.hours ≤ 23 ∧
      (1 ≤ bcdToDec r.day ∧ bcdToDec r.day ≤ 31) ∧ (1 ≤ bcdToDec r.month ∧ bcdToDec r.month ≤ 12) ∧
      bcdToDec r.year ≤ 99 := by
  obtain ⟨hs, hm, hh, hd, -, hmo, hy⟩ := h
  exact ⟨(bcdToDec_mem_range hs).2, (bcdToDec_mem_range hm).2, (bcdToDec_mem_range hh).2, bcdToDec_mem_range hd,
    bcdToDec_mem_range hmo, (bcdToDec_mem_range hy).2⟩

/-- The sum of a valid record has no negative term and stays below 2^32, so nothing wraps. -/
theorem decodeTime_toNat {r : TimeRecord} (h : ValidRecord r) :
    (decodeTime allMasks r).toNat =
      bcdToDec r.seconds + bcdToDec r.minutes * 60 + bcdToDec r.hours * 3600 + (bcdToDec r.day - 1) * 86400
        + (bcdToDec r.month - 1) * 2678400 + bcdToDec r.year * 32140800 := by
  have := validRecord_ranges h
  rw [decodeTime, BitVec.toNat_ofInt, decodeSum_allMasks]
  omega

/-- Each digit of the mixed radix 60, 60, 24, 31, 12 is read off the timestamp by one division, and each valid byte is
the packing of its digit. -/
theorem encodeTime_decodeTime {r : TimeRecord} (h : ValidRecord r) (weekday : Byte) :
    encodeTime weekday (decodeTime allMasks r) = { r with weekday := weekday } := by
  have hsum := decodeTime_toNat h
  obtain ⟨hs, hm, hh, ⟨hd, hd'⟩, ⟨hmo, hmo'⟩, hy⟩ := validRecord_ranges h
  rw [encodeTime_eq]
  generalize (decodeTime allMasks r).toNat = t at hsum
  have hseconds : t % 60 = bcdToDec r.seconds := by omega
  have hminutes : t / 60 % 60 = bcdToDec r.minutes := by omega
  have hhours : t / 3600 % 24 = bcdToDec r.hours := by omega
  have hday : t / 86400 % 31 + 1 = bcdToDec r.day := by omega
  have hmonth : t / 2678400 % 12 + 1 = bcdToDec r.month := by omega
  have hyear : t / 32140800 = bcdToDec r.year := by omega
  obtain ⟨vs, vm, vh, vd, -, vmo, vy⟩ := h
  rw [hseconds, hminutes, hhours, hday, hmonth, hyear, decToBcd_bcdToDec vs, decToBcd_bcdToDec vm,
    decToBcd_bcdToDec vh, decToBcd_bcdToDec vd, decToBcd_bcdToDec vmo, decToBcd_bcdToDec vy]

/-! ### The decimal text of a value (R148) -/

/-- A byte of ASCII text. -/
def asciiByte (c : Char) : Byte := BitVec.ofNat 8 c.toNat

/-- The decimal digits of a value, padded with '0' to two, as R148 says them. -/
def paddedDigits (n : Nat) : List Char := (Nat.toDigits 10 n).leftpad 2 '0'

theorem asciiByte_digitChar {d : Nat} (h : d < 10) : asciiByte d.digitChar = asciiDigit d := by
  rw [asciiByte, Nat.toNat_digitChar_of_lt_ten h]
  rfl

/-- The text has a third digit, the hundreds, exactly from 100 on. -/
theorem paddedDigits_eq {n : Nat} (h : n < 1000) :
    paddedDigits n =
      (if n < 100 then [] else [(n / 100).digitChar]) ++ [(n / 10 % 10).digitChar, (n % 10).digitChar] := by
  rw [paddedDigits]
  rcases Nat.lt_or_ge n 10 with h10 | h10
  · rw [Nat.toDigits_of_lt_base h10, if_pos (by omega), show n / 10 % 10 = 0 by omega, Nat.mod_eq_of_lt h10]
    rfl
  · rw [Nat.toDigits_of_base_le (by decide) h10]
    rcases Nat.lt_or_ge n 100 with h100 | h100
    · have htens : n / 10 < 10 := by omega
      rw [Nat.toDigits_of_lt_base htens, if_pos h100, Nat.mod_eq_of_lt htens]
      rfl
    · rw [Nat.toDigits_of_base_le (by decide) (by omega : 10 ≤ n / 10), Nat.div_div_eq_div_mul,
        Nat.toDigits_of_lt_base (by omega : n / (10 * 10) < 10), if_neg (Nat.not_lt.mpr h100)]
      rfl

/-- `dd(x)` is the padded decimal text of every value of up to three digits. -/
theorem map_asciiByte_paddedDigits {n : Nat} (h : n < 1000) : (paddedDigits n).map asciiByte = twoDigits n := by
  have hdigit (k : Nat) : asciiByte (k % 10).digitChar = asciiDigit (k % 10) :=
    asciiByte_digitChar (Nat.mod_lt k (by decide))
  have hhundreds : asciiByte (n / 100).digitChar = asciiDigit (n / 100) := asciiByte_digitChar (by omega)
  rw [paddedDigits_eq h, twoDigits]
  split <;> simp only [List.map_append, List.map_cons, List.map_nil, hdigit, hhundreds]

/-- The text of a record, character by character. -/
def recordText (r : TimeRecord) : List Char :=
  paddedDigits (bcdToDec r.day) ++ ['-'] ++ paddedDigits (bcdToDec r.month) ++ ['-', '2', '0']
    ++ paddedDigits (bcdToDec r.year) ++ [' '] ++ paddedDigits (bcdToDec r.hours) ++ [':']
    ++ paddedDigits (bcdToDec r.minutes) ++ [':'] ++ paddedDigits (bcdToDec r.seconds)

theorem formatRecord_eq (r : TimeRecord) : formatRecord r = (recordText r).map asciiByte := by
  have hfield (b : Byte) : (paddedDigits (bcdToDec b)).map asciiByte = twoDigits (bcdToDec b) :=
    map_asciiByte_paddedDigits (Nat.lt_of_le_of_lt (bcdToDec_le b) (by decide))
  simp only [formatRecord, recordText, List.map_append, hfield]
  rfl

/-! ### The statements of the time codec family -/

/-- Settles O10: the two nibbles of a byte are its quotient and its remainder by 16. -/
theorem bcd2decValue : Obligations.Bcd2decValue := by
  intro b s hdin
  refine ⟨decodeRequest_reqWord rfl (decodeInvertsEncode (.bcd2dec b)), ?_⟩
  rw [exec_bcd2dec b hdin, bcdValue_eq_bcdToDec]

/-- Settles O11: the byte holds the tens digit's low nibble and the units digit. -/
theorem dec2bcdValue : Obligations.Dec2bcdValue := by
  intro d s hdin
  refine ⟨decodeRequest_reqWord rfl (decodeInvertsEncode (.dec2bcd d)), ?_⟩
  rw [exec_dec2bcd d hdin, ← BitVec.ofNat_toNat, decToBcd_toNat]

/-- Settles O12: `bcdByte` and `decToBcd` are the same packing. -/
theorem encodeRecord : Obligations.EncodeRecord := by
  intro t s hdin
  refine ⟨decodeRequest_reqWord rfl (decodeInvertsEncode (.encode t)), ?_⟩
  rw [exec_encode t hdin, encodeTime_eq]
  rfl

/-- Settles O13: the record of the seven bytes, its fields summed as R143 writes them. -/
theorem decodeTimestamp : Obligations.DecodeTimestamp := by
  intro r0 r1 r2 r3 r4 r5 r6 s hdin
  rw [exec_decode (r := ⟨r0, r1, r2, r3, r4, r5, r6⟩) hdin]
  simp only [bcdValue_eq_bcdToDec]
  rfl

/-- Settles O14: every BCD value has at most three digits, and `dd` of R148 prints such values. -/
theorem formatText : Obligations.FormatText := by
  intro r0 r1 r2 r3 r4 r5 r6 s hdin
  rw [exec_format (r := ⟨r0, r1, r2, r3, r4, r5, r6⟩) hdin, formatRecord_eq]
  simp only [bcdValue_eq_bcdToDec]
  rfl

/-- Settles O15: the byte between the two is the truncated packing, whose value is `d` modulo 160. -/
theorem bcdRoundTrip : Obligations.BcdRoundTrip := by
  intro d s hdin
  refine ⟨decToBcd d.toNat, exec_dec2bcd d hdin, fun s' hdin' => ?_⟩
  have hmod : BitVec.ofNat 32 (d.toNat % 160) = if d.toNat < 160 then d.setWidth 32 else (d - 160).setWidth 32 := by
    split_ifs with hd
    · rw [Nat.mod_eq_of_lt hd, BitVec.ofNat_toNat]
    · have hsub : (d - 160).toNat = d.toNat % 160 := by
        rw [BitVec.toNat_sub, show (160 : Byte).toNat = 160 from rfl]
        omega
      rw [← hsub, BitVec.ofNat_toNat]
  rw [exec_bcd2dec _ hdin', bcdToDec_decToBcd, hmod]

/-- Settles O16: the fields ENCODE packs add up to the timestamp, and none is truncated. -/
theorem timestampRoundTrip : Obligations.TimestampRoundTrip := by
  intro t s hdin
  refine ⟨recordBytes (encodeTime s.cfg.weekday t), exec_encode t hdin, fun s' hdin' hmasks => ?_⟩
  rw [exec_decode hdin', hmasks]
  exact congrArg (fun v => Host.Outcome.next (answered s' .ok v [])) (decodeTime_encodeTime s.cfg.weekday t)

/-- Settles O17: DECODE does not read the byte `w`, and ENCODE reads the valid fields off its sum. -/
theorem recordRoundTrip : Obligations.RecordRoundTrip := by
  intro r w s hvalid hdin hmasks
  refine ⟨decodeTime allMasks r, ?_, fun s' hdin' => ?_⟩
  · rw [exec_decode hdin, hmasks]
    rfl
  · rw [exec_encode _ hdin', encodeTime_decodeTime hvalid]

end Sys2Proof.Machine
end

section
/-! PROOFS. The register bus family: what a step in the main context can do, that every transaction stays within the
map, the order of SETUP's micro-steps, and a transaction byte by byte; then the statements about
spec/42_register_bus.md. -/

namespace Sys2Proof.Machine

open Sys2Proof.Safety

/-! ### What a step in the main context can do -/

/-- A request word never names one of the block's own codes (R110, R111). -/
theorem hostOperation_of_decodeRequest {w : ReqWord} {i : Instr} (h : decodeRequest w = .ok i) :
    hostOperation i = true := by
  unfold decodeRequest at h
  split at h
  · cases h
  · rename_i hint
    obtain ⟨r, hr, hop, -, rfl⟩ := decodeWord_eq_ok_iff.mp h
    have rows : ∀ r ∈ opRows, internalOp r.op = false → ∀ a b t, hostOperation (r.build a b t) = true := by
      simp [opRows, internalOp, hostOperation]
    exact rows r hr (by simpa [hop] using hint) _ _ _

/-- The state after a step in the main context outside a frame, by the agent that moved. -/
inductive MainMove (s : State) : State → Prop where
  | edge : MainMove s (edgeArrives (dropEvent s))
  | bindSecond : MainMove s (bindSecond (dropEvent s))
  | powerOn (he : nextEvent s = .powerOn) : MainMove s (powerOn (dropEvent s))
  /-- The turn of an agent that does nothing: WAIT, or a HOST with no request to issue. -/
  | idle : MainMove s (dropEvent s)
  /-- A latched edge is serviced (R268). -/
  | service : MainMove s (runService s)
  /-- A request that does not decode is refused (R111, R262). -/
  | undecoded (hq : s.seq = .idle) (r : Request) (rest : List Request) (reason : Reason) :
      MainMove s (refuse reason (withInputs s (some r) rest s.agenda.tail s.outq))
  /-- A request that decodes runs its operation. -/
  | request {i : Instr} {t : State} (hq : s.seq = .idle) (r : Request) (rest : List Request)
      (hi : hostOperation i = true) (h : exec i (withInputs s (some r) rest s.agenda.tail s.outq) = .next t) :
      MainMove s t
  /-- A later micro-step of SETUP. -/
  | setup {t : State} (hq : s.seq ≠ .idle) (h : hostMove (dropEvent s) = .next t) : MainMove s t

section
variable {s t : State}

theorem hostMove_mainMove (h : hostMove (dropEvent s) = .next t) : MainMove s t := by
  by_cases hq : s.seq = .idle
  · have hr := not_refused_of_hostMove h
    cases hh : s.host with
    | nil => cases (hostMove_wait (s := dropEvent s) hr hq hh).symm.trans h; exact .idle
    | cons r rest =>
      rw [hostMove_issue (s := dropEvent s) hr hq hh, issue] at h
      split at h
      · cases h
        exact .undecoded hq r rest _
      · exact .request hq r rest (hostOperation_of_decodeRequest ‹_›) h
  · exact .setup hq h

/-- Every step in the main context outside a frame is one of these moves. -/
theorem step_mainMove (hsel : s.sel = false) (hctx : s.ctx = .main) (h : step s = .next t) : MainMove s t := by
  by_cases hturn : nextEvent s = .host ∨ nextEvent s = .wait
  · by_cases hs : serviceable s = true
    · cases (step_service hturn hs).symm.trans h
      exact .service
    · rw [Bool.not_eq_true] at hs
      obtain he | he := hturn
      · have hhost : step s = hostMove (dropEvent s) := by simp [step, nextMove, hsel, he, hs, hostTurn, hctx]
        exact hostMove_mainMove (hhost.symm.trans h)
      · cases (step_wait hsel he hs).symm.trans h
        exact .idle
  · cases he : nextEvent s with
    | host => exact absurd (.inl he) hturn
    | wait => exact absurd (.inr he) hturn
    | edge => cases (step_edge hsel he).symm.trans h; exact .edge
    | bindSecond => cases (step_bindSecond hsel he).symm.trans h; exact .bindSecond
    | powerOn => cases (step_powerOn hsel he).symm.trans h; exact .powerOn he

end

/-! ### The interrupt enable and the saved values (R160, R161) -/

section
variable {s t : State}

/-- IE and the values saved for it are in `t` as in `s`. -/
def KeepsEnable (s t : State) : Prop := t.ie = s.ie ∧ t.savedIe = s.savedIe

theorem OpEffect.keepsEnable {i : Instr} (h : OpEffect s i t) : KeepsEnable s t := by
  cases h <;> exact ⟨rfl, rfl⟩

theorem SetupEffect.keepsEnable (h : SetupEffect s t) : KeepsEnable s t := by
  cases h <;> exact ⟨rfl, rfl⟩

theorem MainMove.keepsEnable (h : MainMove s t) (hp : nextEvent s ≠ .powerOn) : KeepsEnable s t := by
  cases h with
  | powerOn he => exact absurd he hp
  | service => rw [runService_eq]; exact ⟨rfl, rfl⟩
  | request _ _ _ _ h => exact (exec_effect h).keepsEnable
  | setup hq h => exact (hostMove_setupEffect (s := dropEvent s) hq h).keepsEnable
  | _ => exact ⟨rfl, rfl⟩

end

/-! ### The peripheral's registers stay in canonical form (R70, R79) -/

/-- If the peripheral's registers are in canonical form in `s`, they are in `t`. -/
def KeepsMap (s t : State) : Prop := Memory.wf s.chip.preg → Memory.wf t.chip.preg

section
variable {s t : State} {i : Instr}

theorem KeepsMap.of_chip_eq (h : t.chip = s.chip) : KeepsMap s t := fun hwf => h ▸ hwf

theorem KeepsMap.trans {u : State} (h : KeepsMap s t) (h' : KeepsMap t u) : KeepsMap s u := fun hwf => h' (h hwf)

/-- A response touches no register of the peripheral. -/
theorem KeepsMap.respond {st : Status} {v : BitVec 32} {d : List Byte} (h : KeepsMap s t) :
    KeepsMap s (respond st v d t) := h

theorem busWrite_keepsMap {addr : Byte} {bytes : List Byte} (h : addr.toNat + bytes.length ≤ lastRegister + 1) :
    KeepsMap s (busWrite addr bytes s) := fun hwf => by
  rw [busWrite_chip]
  exact Peripheral.after_wf hwf h

theorem Peripheral.after_one_wf {p : Peripheral} {addr : Byte} (hwf : Memory.wf p.preg)
    (h : addr.toNat ≤ lastRegister) (b : Byte) : Memory.wf (Peripheral.after .write addr [b] p).preg :=
  Peripheral.after_wf hwf (Nat.succ_le_succ h)

theorem busWrite_one_keepsMap {addr : Byte} (h : addr.toNat ≤ lastRegister) (b : Byte) :
    KeepsMap s (busWrite addr [b] s) := busWrite_keepsMap (Nat.succ_le_succ h)

theorem busRead_keepsMap (addr : Byte) (n : Nat) : KeepsMap s (busRead addr n s).2 := fun hwf => by
  rw [busRead_chip, Peripheral.after_read_preg]
  exact hwf

theorem readAndRespond_keepsMap {addr : Byte} {n : Nat} {value : List Byte → BitVec 32}
    {dout : List Byte → List Byte} : KeepsMap s (readAndRespond addr n value dout s) :=
  (busRead_keepsMap addr n).respond

theorem configureBody_keepsMap (k : Byte) : KeepsMap s (configureBody k s) := fun hwf => by
  rw [configureBody_eq]
  have stopped := Peripheral.after_one_wf (addr := 0x0E) hwf (by decide) (timerCfgStop s.cfg)
  have loaded := Peripheral.after_one_wf (addr := 0x0F) stopped (by decide) k
  exact Peripheral.after_one_wf (addr := 0x0E) loaded (by decide) (timerCfgRun s.cfg)

theorem stopBody_keepsMap : KeepsMap s (stopBody s) :=
  busWrite_one_keepsMap (s := csEnter s) (by decide) _

theorem runService_keepsMap : KeepsMap s (runService s) :=
  busWrite_one_keepsMap (s := { serviceEntry s with acc := _ }) (by decide) _

theorem KeepsMap.of_attemptBus {ds : List (Option Reason)} {run : State → State} (h : attemptBus ds run s = .next t)
    (hrun : (∀ d ∈ ds, d = none) → KeepsMap s (run s)) : KeepsMap s t := by
  obtain ⟨r, -, rfl⟩ | ⟨hds, -, rfl⟩ := attemptBus_next h
  · exact .of_chip_eq rfl
  · exact hrun ((firstDefect_eq_none ds).mp hds)

theorem stopOrFail_keepsMap : KeepsMap s (stopOrFail s) := by
  unfold stopOrFail
  split
  · exact .of_chip_eq rfl
  · exact stopBody_keepsMap.respond

theorem configureOrFail_keepsMap (k : Byte) : KeepsMap s (configureOrFail k s) := by
  unfold configureOrFail
  split
  · exact .of_chip_eq rfl
  · exact (configureBody_keepsMap k).respond

theorem setTime_keepsMap (h : (dinOf s).length = timeRecordSize) : KeepsMap s (setTime s) := by
  have hlast : (0x02 : Byte).toNat + (dinOf s).length ≤ lastRegister + 1 := by rw [h]; decide
  exact (busWrite_keepsMap hlast).respond

theorem cmd_keepsMap {kind len : Byte} (h : (dinOf s).length = len.toNat) :
    KeepsMap s ((if kind = 0 then cmdSetTime len else if kind = 1 then cmdPrintTime else endRequest) s) := by
  split
  · unfold cmdSetTime
    split
    · exact setTime_keepsMap (h.trans ‹_›)
    · exact .of_chip_eq rfl
  · split
    · unfold cmdPrintTime
      split
      · exact readAndRespond_keepsMap
      · exact .of_chip_eq rfl
    · exact .of_chip_eq rfl

theorem sendCommand_keepsMap {mode : BusMode} {addr : BitVec 4} (h : sendCommand mode addr s = .next t) :
    KeepsMap s t := by
  unfold sendCommand at h
  split at h <;> cases h
  exact fun hwf => (Peripheral.receive_preg s.chip none).symm ▸ hwf

theorem execSetper_keepsMap {k : Byte} (h : execSetper k s = .next t) : KeepsMap s t := by
  refine .of_attemptBus h fun _ => ?_
  split
  · exact stopOrFail_keepsMap
  · exact configureOrFail_keepsMap k

theorem execIrqsvc_keepsMap (h : execIrqsvc s = .next t) : KeepsMap s t := by
  unfold execIrqsvc at h
  split at h <;> cases h
  · exact runService_keepsMap
  · exact .of_chip_eq rfl

/-- The operations that move data check the address, the burst or the DIN length before they write. -/
theorem exec_movesData_keepsMap (hi : movesData i = true) (h : exec i s = .next t) : KeepsMap s t := by
  unfold exec at h
  cases i with
  | rdreg addr => exact .of_attemptBus h fun _ => readAndRespond_keepsMap
  | wrreg addr v =>
    refine .of_attemptBus h fun hds => ?_
    have haddr := (addrDefect_eq_none addr).mp (hds _ (by simp))
    exact (busWrite_one_keepsMap haddr v).respond
  | brd first count => exact .of_attemptBus h fun _ => readAndRespond_keepsMap
  | bwr first count =>
    refine .of_attemptBus h fun hds => ?_
    have hlen := (dinDefect_eq_none (.bwr first count) s).mp (hds _ (by simp))
    obtain ⟨-, hlast⟩ := (burstDefect_eq_none first count).mp (hds _ (by simp))
    exact (busWrite_keepsMap (by rw [hlen]; exact hlast)).respond
  | gettime => exact .of_attemptBus h fun _ => readAndRespond_keepsMap
  | getts => exact .of_attemptBus h fun _ => readAndRespond_keepsMap
  | settime =>
    exact .of_attemptBus h fun hds => setTime_keepsMap ((dinDefect_eq_none .settime s).mp (hds _ (by simp)))
  | cmd kind len =>
    exact .of_attemptBus h fun hds => cmd_keepsMap ((dinDefect_eq_none (.cmd kind len) s).mp (hds _ (by simp)))
  | _ => cases hi

/-- No operation writes past the map. -/
theorem exec_keepsMap (h : exec i s = .next t) : KeepsMap s t := by
  obtain ⟨-, hchip⟩ | access := (exec_effect h).bus_eq
  · exact .of_chip_eq hchip
  · cases access with
    | data hi => exact exec_movesData_keepsMap hi h
    | setper k => exact execSetper_keepsMap h
    | stop => exact .of_attemptBus h fun _ => stopOrFail_keepsMap
    | irqsvc => exact execIrqsvc_keepsMap h
    | busWrite addr => exact sendCommand_keepsMap h
    | busRead addr => exact sendCommand_keepsMap h

end

/-! ### The micro-steps of SETUP in order (R222, R225, R226) -/

/-- The micro-step `q'` may follow the micro-step `q`, with no register of the invariant changed, where an interrupt
source is configured (`hasIrq`) or is not. U5 with a source wires the line, and U8 is the last: neither is here. -/
inductive SeqNext (hasIrq : Bool) : Seq → Seq → Prop where
  | u2 (v : Byte) : SeqNext hasIrq .u2 (.u3 v)
  | u3_u4 (v : Byte) : SeqNext hasIrq (.u3 v) .u4
  | u3_u5 (v : Byte) : SeqNext hasIrq (.u3 v) .u5
  | u4 : SeqNext hasIrq .u4 .u5
  | u5 (h : hasIrq = false) : SeqNext hasIrq .u5 .u7
  | u6 : SeqNext hasIrq .u6 .u7
  | u7_v1 (h : hasIrq = true) : SeqNext hasIrq .u7 .v1
  | u7_u8 (h : hasIrq = false) : SeqNext hasIrq .u7 .u8
  | v1 : SeqNext hasIrq .v1 .v2
  | v2 : SeqNext hasIrq .v2 .v3
  | v3 (rb : List Byte) : SeqNext hasIrq .v3 (.v4 rb)
  | v4 (rb : List Byte) : SeqNext hasIrq (.v4 rb) .v5
  | v5 : SeqNext hasIrq .v5 .v6
  | v6 : SeqNext hasIrq .v6 .v7
  | v7 (t : Bool) : SeqNext hasIrq .v7 (.v8 t)
  | v8 : SeqNext hasIrq (.v8 true) .u8

/-- `t` is `s` with SEQ at `q`, as far as the invariant reads a state. -/
structure SeqMoved (s t : State) (q : Seq) : Prop where
  seq      : t.seq = q
  cfg      : t.cfg = s.cfg
  irqWired : t.irqWired = s.irqWired
  irqPend  : t.irqPend = s.irqPend
  inited   : t.inited = s.inited
  fault    : t.fault = s.fault
  req      : t.req = s.req
  settled  : Settled s → Settled t
  memory   : KeepsMap s t

/-- A later micro-step of SETUP or VERIFY, with its place in the order. -/
inductive SetupMove (s : State) : State → Prop where
  | goesOn {t : State} {q : Seq} (hq : SeqNext s.cfg.hasIrq s.seq q) (h : SeqMoved s t q) : SetupMove s t
  /-- U5 wires the configured interrupt source. -/
  | wired (hq : s.seq = .u5) (hirq : s.cfg.hasIrq = true) : SetupMove s { s with irqWired := true, seq := .u6 }
  /-- V4 or V8 fails the self-test. -/
  | failed (hq : inVerify s.seq = true) : SetupMove s { s with fault := true, seq := .u8 }
  /-- U8 ends SETUP. -/
  | done (hq : s.seq = .u8) : SetupMove s (respond .ok 0 [] { s with inited := true })

section
variable {s t : State}

theorem SeqMoved.setSeq (s : State) (q : Seq) : SeqMoved s { s with seq := q } q :=
  ⟨rfl, rfl, rfl, rfl, rfl, rfl, rfl, id, id⟩

theorem SeqMoved.clearTick (s : State) (q : Seq) : SeqMoved s { clearTick s with seq := q } q :=
  ⟨rfl, rfl, rfl, rfl, rfl, rfl, rfl, id, id⟩

theorem SeqMoved.withFrames {chip : Peripheral} {es : List BusEvent} {p : BitVec 16} (q : Seq)
    (h : KeepsMap s { withFrames s chip es with periodMs := p }) :
    SeqMoved s { withFrames s chip es with periodMs := p, seq := q } q :=
  ⟨rfl, rfl, rfl, rfl, rfl, rfl, rfl,
    fun ⟨_, _, hout, hsaved, hctx, hie⟩ => ⟨rfl, rfl, hout, hsaved, hctx, hie⟩, h⟩

theorem SeqMoved.busWrite {addr : Byte} {bytes : List Byte} (h : addr.toNat + bytes.length ≤ lastRegister + 1)
    (s : State) (q : Seq) : SeqMoved s { busWrite addr bytes s with seq := q } q := by
  have hmap := busWrite_keepsMap (s := s) h
  rw [busWrite_withFrames] at hmap ⊢
  exact .withFrames q hmap

theorem SeqMoved.busRead (addr : Byte) (n : Nat) (s : State) (q : Seq) :
    SeqMoved s { (busRead addr n s).2 with seq := q } q := by
  have hmap := busRead_keepsMap (s := s) addr n
  rw [busRead_withFrames] at hmap ⊢
  exact .withFrames q hmap

theorem SeqMoved.configureBody (k : Byte) (s : State) (q : Seq) :
    SeqMoved s { configureBody k s with seq := q } q := by
  have hmap := configureBody_keepsMap (s := s) k
  rw [configureBody_eq] at hmap ⊢
  exact .withFrames q hmap

theorem SeqMoved.stopBody (s : State) (q : Seq) : SeqMoved s { stopBody s with seq := q } q := by
  have hmap := stopBody_keepsMap (s := s)
  rw [stopBody_eq] at hmap ⊢
  exact .withFrames q hmap

theorem stepU3_setupMove {v : Byte} (hq : s.seq = .u3 v) : SetupMove s (stepU3 v s) := by
  unfold stepU3
  split
  · have hreset : (s.cfg.resetReg.setWidth 8).toNat ≤ lastRegister := by
      rw [BitVec.toNat_setWidth_of_le (by decide)]
      exact Nat.le_of_lt_succ s.cfg.resetReg.isLt
    exact .goesOn (hq ▸ .u3_u4 v) (.busWrite (bytes := [_]) (Nat.succ_le_succ hreset) ..)
  · exact .goesOn (hq ▸ .u3_u5 v) (.setSeq ..)

theorem stepU5_setupMove (hq : s.seq = .u5) : SetupMove s (stepU5 s) := by
  unfold stepU5
  split
  · exact .wired hq ‹_›
  · exact .goesOn (hq ▸ .u5 (Bool.not_eq_true _ ▸ ‹_›)) (.setSeq ..)

theorem stepV0_setupMove (hq : s.seq = .u7) : SetupMove s (stepV0 s) := by
  unfold stepV0
  split
  · exact .goesOn (hq ▸ .u7_v1 ‹_›) (.setSeq ..)
  · exact .goesOn (hq ▸ .u7_u8 (Bool.not_eq_true _ ▸ ‹_›)) (.setSeq ..)

theorem stepV4_setupMove {rb : List Byte} (hq : s.seq = .v4 rb) : SetupMove s (stepV4 rb s) := by
  unfold stepV4
  split
  · exact .goesOn (hq ▸ .v4 rb) (.setSeq ..)
  · exact .failed (hq ▸ rfl)

theorem stepV8_setupMove {tick : Bool} (hq : s.seq = .v8 tick) : SetupMove s (stepV8 tick s) := by
  cases tick with
  | false => exact .failed (hq ▸ rfl)
  | true => exact .goesOn (hq ▸ .v8) (.setSeq ..)

/-- While SEQ is not IDLE the HOST's move is the micro-step that SEQ names. -/
theorem hostMove_setupMove (hq : s.seq ≠ .idle) (h : hostMove s = .next t) : SetupMove s t := by
  have hr := not_refused_of_hostMove h
  cases hs : s.seq with
  | idle => exact absurd hs hq
  | u2 => cases (hostMove_u2 hr hs).symm.trans h; exact .goesOn (hs ▸ .u2 _) (.busRead ..)
  | u3 v => cases (hostMove_u3 hr hs).symm.trans h; exact stepU3_setupMove hs
  | u4 =>
    cases (hostMove_u4 hr hs).symm.trans h
    exact .goesOn (hs ▸ .u4) (.busWrite (by simp [recordBytes, lastRegister]) ..)
  | u5 => cases (hostMove_u5 hr hs).symm.trans h; exact stepU5_setupMove hs
  | u6 => cases (hostMove_u6 hr hs).symm.trans h; exact .goesOn (hs ▸ .u6) (.busWrite (by simp [lastRegister]) ..)
  | u7 => cases (hostMove_u7 hr hs).symm.trans h; exact stepV0_setupMove hs
  | v1 => cases (hostMove_v1 hr hs).symm.trans h; exact .goesOn (hs ▸ .v1) (.clearTick ..)
  | v2 => cases (hostMove_v2 hr hs).symm.trans h; exact .goesOn (hs ▸ .v2) (.configureBody ..)
  | v3 => cases (hostMove_v3 hr hs).symm.trans h; exact .goesOn (hs ▸ .v3 _) (.busRead ..)
  | v4 rb => cases (hostMove_v4 hr hs).symm.trans h; exact stepV4_setupMove hs
  | v5 => cases (hostMove_v5 hr hs).symm.trans h; exact .goesOn (hs ▸ .v5) (.setSeq ..)
  | v6 => cases (hostMove_v6 hr hs).symm.trans h; exact .goesOn (hs ▸ .v6) (.stopBody ..)
  | v7 => cases (hostMove_v7 hr hs).symm.trans h; exact .goesOn (hs ▸ .v7 _) (.clearTick ..)
  | v8 tick => cases (hostMove_v8 hr hs).symm.trans h; exact stepV8_setupMove hs
  | u8 => cases (hostMove_u8 hr hs).symm.trans h; exact .done hs

end

/-! ### The invariant -/

section
variable {s t : State}

/-- What a step of the sequence does to the marks that the invariant reads of SEQ. -/
theorem SeqNext.marks {b : Bool} {q q' : Seq} (h : SeqNext b q q') :
    q ≠ .idle ∧ q' ≠ .idle ∧ (faultUndecided q' = true → faultUndecided q = true) ∧
      (inVerify q' = true → inVerify q = true ∨ b = true) ∧
      (afterWiring q' = true → afterWiring q = true ∨ b = false) := by
  cases h <;> simp_all [faultUndecided, inVerify, afterWiring]

theorem SeqMoved.keepsInv {q : Seq} (hm : SeqMoved s t q) (hq : SeqNext s.cfg.hasIrq s.seq q) (h : Inv s) :
    Inv t := by
  obtain ⟨hset, ⟨hpend, hwired, hverify, hafter⟩, ⟨hfault, -⟩, hreq, hmem⟩ := h
  obtain ⟨hidle, hidle', hund, hver, haft⟩ := hq.marks
  obtain ⟨eseq, ecfg, ewired, epend, einit, efault, ereq, hsettled, hmap⟩ := hm
  refine ⟨hsettled hset, ?_, ?_, ?_, hmap hmem⟩
  · rw [WiringOk, eseq, ecfg, ewired, epend, einit]
    refine ⟨hpend, hwired, fun hv => (hver hv).elim hverify id, fun ha hirq => ?_⟩
    refine hafter (ha.imp_left fun ha => (haft ha).resolve_right ?_) hirq
    simp [hirq]
  · rw [FaultOk, eseq, efault]
    exact ⟨fun hu => hfault (hund hu), fun h => absurd h hidle'⟩
  · have hbusy : s.req ≠ none := fun hnone => hidle (hreq.mp hnone)
    rw [RequestOk, eseq, ereq]
    exact iff_of_false hbusy hidle'

/-- All of VERIFY comes after U5. -/
theorem afterWiring_of_inVerify {q : Seq} (h : inVerify q = true) : afterWiring q = true := by
  cases q <;> simp_all [inVerify, afterWiring]

theorem SetupMove.keepsInv (hm : SetupMove s t) (hidle : s.seq ≠ .idle) (h : Inv s) : Inv t := by
  have ⟨hset, ⟨hpend, hwired, _, hafter⟩, ⟨hfault, _⟩, hreq, hmem⟩ := h
  have hbusy : s.req ≠ none := fun hnone => hidle (hreq.mp hnone)
  cases hm with
  | goesOn hq hm => exact hm.keepsInv hq h
  | wired hq hirq =>
    have hclear : s.fault = false := hfault (by rw [hq]; rfl)
    exact ⟨hset, ⟨fun _ => rfl, fun _ => hirq, fun _ => hirq, fun _ _ => rfl⟩,
      ⟨fun _ => hclear, fun h => nomatch h⟩, iff_of_false hbusy nofun, hmem⟩
  | failed hq =>
    have hw := hafter (.inl (afterWiring_of_inVerify hq))
    exact ⟨hset, ⟨hpend, hwired, nofun, fun _ => hw⟩, ⟨nofun, nofun⟩, iff_of_false hbusy nofun, hmem⟩
  | done hq =>
    have hw := hafter (.inl (by rw [hq]; rfl))
    exact ⟨hset, ⟨hpend, hwired, nofun, fun _ => hw⟩, ⟨nofun, nofun⟩, iff_of_true rfl rfl, hmem⟩

/-- An operation of the HOST, run from IDLE, ends its request or begins SETUP. -/
theorem OpEffect.keepsInv {i : Instr} (e : OpEffect s i t) (hi : hostOperation i = true) (hidle : s.seq = .idle)
    (hreq : s.req ≠ none) (hset : Settled s) (hwiring : WiringOk s) (hfault : FaultOk s)
    (hmem : Memory.wf t.chip.preg) : Inv t := by
  have ⟨_, _, hout, hsaved, hctx, hie⟩ := hset
  have hwiring' : WiringOk (ended s) := by rw [WiringOk, hidle] at hwiring; exact hwiring
  have hfault' : FaultOk (ended s) := by rw [FaultOk, hidle] at hfault; exact hfault
  cases e with
  | refused r => exact ⟨hset, hwiring, hfault, iff_of_true rfl hidle, hmem⟩
  | moved => exact ⟨⟨rfl, rfl, hout, hsaved, hctx, hie⟩, hwiring', hfault', iff_of_true rfl rfl, hmem⟩
  | period => exact ⟨⟨rfl, rfl, hout, hsaved, hctx, hie⟩, hwiring', hfault', iff_of_true rfl rfl, hmem⟩
  | begun => exact ⟨hset, hwiring', ⟨fun _ => rfl, nofun⟩, iff_of_false hreq nofun, hmem⟩
  | verified q => cases hi
  | serviced => cases hi
  | commanded _ _ h => obtain rfl | rfl := h <;> cases hi
  | _ => exact ⟨hset, hwiring', hfault', iff_of_true rfl rfl, hmem⟩

theorem runService_keepsInv (h : Inv s) : Inv (runService s) := by
  have hmem := runService_keepsMap h.memory
  rw [runService_eq] at hmem ⊢
  obtain ⟨⟨-, -, hout, hsaved, -, hie⟩, ⟨-, hwired⟩, hfault, hreq, -⟩ := h
  exact ⟨⟨rfl, rfl, hout, hsaved, rfl, hie⟩, ⟨nofun, hwired⟩, hfault, hreq, hmem⟩

theorem edgeArrives_keepsInv (h : Inv s) : Inv (edgeArrives s) := by
  obtain ⟨hset, ⟨hpend, hwired⟩, hfault, hreq, hmem⟩ := h
  refine ⟨hset, ⟨fun he => ?_, hwired⟩, hfault, hreq, hmem⟩
  obtain he | he := Bool.or_eq_true .. ▸ he
  · exact hpend he
  · exact he

theorem powerOn_keepsInv (h : Inv s) : Inv (powerOn s) :=
  ⟨⟨rfl, rfl, rfl, rfl, rfl, rfl⟩, ⟨nofun, nofun, nofun, fun h => nomatch h⟩, ⟨nofun, fun _ _ => rfl⟩,
    iff_of_true rfl rfl, h.memory⟩

/-- The agenda and the HOST's queue are no part of the invariant. -/
theorem dropEvent_keepsInv (h : Inv s) : Inv (dropEvent s) :=
  ⟨h.settled, h.wiring, h.fault, h.request, h.memory⟩

theorem MainMove.keepsInv (hm : MainMove s t) (h : Inv s) : Inv t := by
  have hd := dropEvent_keepsInv h
  cases hm with
  | edge => exact edgeArrives_keepsInv hd
  | bindSecond => exact ⟨hd.settled, hd.wiring, hd.fault, hd.request, hd.memory⟩
  | powerOn => exact powerOn_keepsInv hd
  | idle => exact hd
  | service => exact runService_keepsInv h
  | undecoded hq r rest reason =>
    exact ⟨h.settled, h.wiring, h.fault, iff_of_true rfl hq, h.memory⟩
  | request hq r rest hi hx =>
    exact (exec_effect hx).keepsInv hi hq (Option.some_ne_none r) h.settled h.wiring h.fault
      (exec_keepsMap hx h.memory)
  | setup hq hmove => exact (hostMove_setupMove (s := dropEvent s) hq hmove).keepsInv hq hd

end

/-! ### The bus operations with legal operands (R166 to R169) -/

section
variable {s : State} {ds : List (Option Reason)} {run : State → State}

theorem attemptBus_refuses {r : Reason} (h : firstDefect ds = some r) : attemptBus ds run s = .next (rejected s r) := by
  rw [attemptBus, h]
  rfl

/-- An operation that looks at one address runs once DIN is empty, the address is in the map and SETUP is done. -/
theorem attemptBus_addr {i : Instr} {addr : Byte} (hdin : (dinOf s).length = dinLength i)
    (haddr : addr.toNat ≤ lastRegister) (hinit : s.inited = true) (hsel : s.sel = false) :
    attemptBus [dinDefect i s, addrDefect addr, initDefect s] run s = .next (run s) := by
  rw [(dinDefect_eq_none i s).mpr hdin, (addrDefect_eq_none addr).mpr haddr, (initDefect_eq_none s).mpr hinit]
  exact attemptBus_run rfl hsel

/-- A register of the map has an address that the six-bit field holds. -/
theorem addr_lt_of_le {addr : Byte} (h : addr.toNat ≤ lastRegister) : addr.toNat < 2 ^ addrWidth :=
  Nat.lt_of_le_of_lt h (by decide)

theorem exec_rdreg_legal {addr : Byte} (hdin : dinOf s = []) (haddr : addr.toNat ≤ lastRegister)
    (hinit : s.inited = true) (hsel : s.sel = false) :
    exec (.rdreg addr) s =
      .next (answered (busRead addr 1 s).2 .ok (((busRead addr 1 s).1.getD 0 0).setWidth 32) []) := by
  rw [exec_rdreg, attemptBus_addr (congrArg List.length hdin) haddr hinit hsel]
  rfl

theorem exec_wrreg_legal {addr : Byte} (v : Byte) (hdin : dinOf s = []) (haddr : addr.toNat ≤ lastRegister)
    (hinit : s.inited = true) (hsel : s.sel = false) :
    exec (.wrreg addr v) s = .next (answered (busWrite addr [v] s) .ok 0 []) := by
  rw [exec_wrreg, attemptBus_addr (congrArg List.length hdin) haddr hinit hsel]
  rfl

theorem exec_wrreg_notInitialized {addr : Byte} (v : Byte) (hdin : dinOf s = []) (haddr : addr.toNat ≤ lastRegister)
    (hinit : s.inited = false) : exec (.wrreg addr v) s = .next (rejected s .notInitialized) := by
  have hlen : (dinOf s).length = dinLength (.wrreg addr v) := congrArg List.length hdin
  rw [exec_wrreg, (dinDefect_eq_none _ s).mpr hlen, (addrDefect_eq_none addr).mpr haddr,
    initDefect, hinit]
  exact attemptBus_refuses rfl

theorem exec_bwr_legal {first count : Byte} (hdin : (dinOf s).length = count.toNat) (hcount : count.toNat ≠ 0)
    (hlast : first.toNat + count.toNat ≤ lastRegister + 1) (hinit : s.inited = true) (hsel : s.sel = false) :
    exec (.bwr first count) s = .next (answered (busWrite first (dinOf s) s) .ok 0 []) := by
  have hlen : (dinOf s).length = dinLength (.bwr first count) := hdin
  rw [exec_bwr, (dinDefect_eq_none _ s).mpr hlen, (burstDefect_eq_none first count).mpr ⟨hcount, hlast⟩,
    (initDefect_eq_none s).mpr hinit, attemptBus_run rfl hsel]
  rfl

end

/-! ### A transaction byte by byte (R163 to R165) -/

section
variable {mask addr : Byte}

/-- The low nibble of a byte is its remainder by 16. -/
theorem and_lowNibble_toNat (b : Byte) : (b &&& 0x0F).toNat = b.toNat % 16 := by
  rw [BitVec.toNat_and]
  exact Nat.and_two_pow_sub_one_eq_mod b.toNat 4

/-- The operand of a command byte is its low nibble. -/
theorem setWidth_extractLsb'_lowNibble (b : Byte) : (b.extractLsb' 0 4).setWidth 8 = b &&& 0x0F := by
  apply BitVec.eq_of_toNat_eq
  rw [and_lowNibble_toNat, BitVec.toNat_setWidth_of_le (by decide), BitVec.extractLsb'_toNat, Nat.shiftRight_zero]

/-- A legal address stands in the low nibble. -/
theorem addr_and_lowNibble (h : addr.toNat ≤ 0x0F) : addr &&& 0x0F = addr := by
  apply BitVec.eq_of_toNat_eq
  rw [and_lowNibble_toNat, Nat.mod_eq_of_lt (Nat.lt_succ_of_le h)]

theorem addr_and_highNibble (h : addr.toNat ≤ 0x0F) : addr &&& 0xF0 = 0 := by
  rw [← addr_and_lowNibble h, BitVec.and_assoc]
  exact BitVec.and_zero

/-- A mask with a zero low nibble is its high nibble. -/
theorem mask_and_highNibble (h : mask &&& 0x0F = 0) : mask &&& 0xF0 = mask := by
  have hall : mask &&& (0xF0 ||| 0x0F) = mask := BitVec.and_allOnes
  rw [BitVec.and_or_distrib_left, h] at hall
  simpa using hall

/-- The high nibble of a command byte is the mask (R113). -/
theorem command_highNibble (hmask : mask &&& 0x0F = 0) (h : addr.toNat ≤ 0x0F) :
    (mask ||| addr) &&& 0xF0 = mask := by
  rw [BitVec.and_or_distrib_right, mask_and_highNibble hmask, addr_and_highNibble h]
  exact BitVec.or_zero

/-- The operand of a command byte is the address (R113). -/
theorem command_operand (hmask : mask &&& 0x0F = 0) (h : addr.toNat ≤ 0x0F) :
    ((mask ||| addr).extractLsb' 0 4).setWidth 8 = addr := by
  rw [setWidth_extractLsb'_lowNibble, BitVec.and_or_distrib_right, hmask, addr_and_lowNibble h]
  exact BitVec.zero_or

end

/-- The mask that selects a mode (R113). -/
def modeMask (cfg : Params) : BusMode → Byte
  | .read => cfg.readMask
  | .write => cfg.writeMask

/-- The operation of a mode's command byte (R113). -/
def modeCommand : BusMode → BitVec 4 → Instr
  | .read => .busRead
  | .write => .busWrite

/-- Masks under which a command byte is read back as what it was built from (R114). -/
def MasksApart (cfg : Params) : Prop :=
  cfg.writeMask &&& 0x0F = 0 ∧ cfg.readMask &&& 0x0F = 0 ∧ cfg.writeMask ≠ cfg.readMask

theorem decodeBus_modeMask {cfg : Params} {addr : Byte} (hm : MasksApart cfg) (h : addr.toNat ≤ 0x0F)
    (mode : BusMode) :
    decodeBus cfg.writeMask cfg.readMask (modeMask cfg mode ||| addr) =
      some (modeCommand mode ((modeMask cfg mode ||| addr).extractLsb' 0 4)) := by
  obtain ⟨hw, hr, hne⟩ := hm
  rw [decodeBus, mask_and_highNibble hw, mask_and_highNibble hr]
  cases mode with
  | write =>
    rw [modeMask, command_highNibble hw h, if_pos rfl]
    rfl
  | read =>
    rw [modeMask, command_highNibble hr h, if_neg hne.symm, if_pos rfl]
    rfl

section
variable {s : State}

theorem exec_modeCommand (mode : BusMode) (addr : BitVec 4) (s : State) :
    exec (modeCommand mode addr) s = sendCommand mode addr s := by
  cases mode <;> rfl

/-- The first step of a frame sends its command byte. -/
theorem step_commandByte {addr : Byte} {bytes : List Byte} (hm : MasksApart s.cfg) (h : addr.toNat ≤ 0x0F)
    (mode : BusMode) (hsel : s.sel = true) (htxn : s.txn = none)
    (hout : s.outq = (modeMask s.cfg mode ||| addr) :: bytes) :
    step s = .next (xferCommand mode addr { s with outq := bytes }) := by
  have hmask : modeMask s.cfg mode &&& 0x0F = 0 := by
    obtain ⟨hw, hr, -⟩ := hm
    cases mode
    · exact hr
    · exact hw
  rw [step_frame hsel, frameMove, htxn, hout]
  simp only [decodeBus_modeMask hm h mode]
  rw [exec_modeCommand, sendCommand, if_pos (by simp [hsel]), command_operand hmask h]

/-- An open frame that has sent its command byte sends the next data byte. -/
theorem step_dataByte {t : Txn} {b : Byte} {rest : List Byte} (hsel : s.sel = true) (htxn : s.txn = some t)
    (hout : s.outq = b :: rest) (hptr : t.ptr ≤ lastRegister) :
    step s = .next (xferData b { s with outq := rest }) := by
  rw [step_frame hsel, frameMove, htxn, hout]
  exact if_pos hptr

/-- A frame with nothing left to send ends. -/
theorem step_deselect (hsel : s.sel = true) (hout : s.outq = []) : step s = .next (deselect s) := by
  rw [step_frame hsel, frameMove, hout]
  cases s.txn <;> rfl

/-- A data byte moves the pointer on by one register. -/
theorem xferData_some {t : Txn} (b : Byte) (htxn : s.txn = some t) :
    ∃ chip t', t'.ptr = t.ptr + 1 ∧ ∀ outq, xferData b { s with outq := outq } =
      { s with chip := chip, txn := some t', outq := outq } := by
  simp only [xferData, htxn]
  exact ⟨_, _, rfl, fun _ => rfl⟩

/-- Each step of an open frame sends one data byte, and one more ends the frame. -/
theorem steps_dataBytes (bytes : List Byte) :
    ∀ (s : State) (t : Txn), s.sel = true → s.txn = some t → s.outq = bytes →
      t.ptr + bytes.length ≤ lastRegister + 1 →
      steps (bytes.length + 1) s = .next (deselect (xferAll bytes { s with outq := [] })) := by
  induction bytes with
  | nil =>
    intro s t hsel _ hout _
    have hsent : { s with outq := [] } = s := by rw [← hout]
    rw [hsent]
    exact steps_succ 0 (step_deselect hsel hout)
  | cons b bytes ih =>
    intro s t hsel htxn hout hlast
    rw [List.length_cons] at hlast
    obtain ⟨chip, t', hptr, hx⟩ := xferData_some b htxn
    rw [List.length_cons, steps_succ _ (step_dataByte hsel htxn hout (by omega)), hx, xferAll, hx]
    exact ih { s with chip := chip, txn := some t', outq := bytes } t' hsel rfl rfl (by rw [hptr]; omega)

/-- From the frame just selected, the steps of its bytes make up the whole transaction. -/
theorem steps_frame {addr : Byte} (hm : MasksApart s.cfg) (h : addr.toNat ≤ 0x0F) (mode : BusMode) (bytes : List Byte)
    (hlast : addr.toNat + bytes.length ≤ 16) :
    steps (bytes.length + 2) { select s with outq := (modeMask s.cfg mode ||| addr) :: bytes } =
      .next (deselect { openFrame mode addr bytes s with outq := [] }) := by
  have hcmd := step_commandByte (s := { select s with outq := (modeMask s.cfg mode ||| addr) :: bytes }) hm h mode
    rfl rfl rfl
  rw [steps_succ _ hcmd, steps_dataBytes bytes _ _ rfl rfl rfl hlast, openFrame_eq,
    xferAll_eq bytes _ _ rfl]
  rfl

end

/-! ### The statements of the register bus family -/

/-- Settles O59, by the agent that moved: a settled state is in the main context outside a frame. -/
theorem stepKeepsInvariant : Obligations.StepKeepsInvariant := by
  intro s t h hstep
  obtain ⟨hsel, -, -, -, hctx, -⟩ := h.settled
  exact (step_mainMove hsel hctx hstep).keepsInv h

/-- Settles O18: a legal RDREG is one `busRead` of one byte. -/
theorem rdregReadsOneByte : Obligations.RdregReadsOneByte := by
  intro addr s hdin haddr hinit hsel
  obtain ⟨first, data, chip, hlen, hread, hsame⟩ := busRead_frames (addr_lt_of_le haddr) 1 s
  obtain ⟨v, rfl⟩ := List.length_eq_one_iff.mp hlen
  refine ⟨first, v, chip, ?_, hsame⟩
  rw [exec_rdreg_legal hdin haddr hinit hsel, hread]
  rfl

/-- Settles O19: the checks in their order, then one `busWrite` of one byte. -/
theorem wrregWritesOneByte : Obligations.WrregWritesOneByte := by
  intro addr v s hdin
  refine ⟨decodeRequest_reqWord rfl (decodeInvertsEncode (.wrreg addr v)), ?_⟩
  split_ifs with hpast hinit
  · rw [exec_wrreg]
    exact attemptBus_rejected (congrArg List.length hdin) (addrDefect_past hpast)
  · exact exec_wrreg_notInitialized v hdin (Nat.not_lt.mp hpast) hinit
  · intro hsel
    have haddr : addr.toNat ≤ lastRegister := Nat.not_lt.mp hpast
    obtain ⟨got, chip, hlen, hwrite, hland⟩ := busWrite_frames (addr_lt_of_le haddr) [v] s
    refine ⟨got, chip, hlen, ?_, hland⟩
    rw [exec_wrreg_legal v hdin haddr (by simpa using hinit) hsel, hwrite]

/-- Settles O20: a legal BRD is one `busRead` of `count` bytes. -/
theorem brdReadsBurst : Obligations.BrdReadsBurst := by
  intro first count s hdin hcount hlast hinit hsel
  have haddr : first.toNat < 2 ^ addrWidth := by rw [addrWidth]; omega
  obtain ⟨c, data, chip, hlen, hread, hsame⟩ := busRead_frames haddr count.toNat s
  refine ⟨c, data, chip, hlen, ?_, hsame⟩
  rw [exec_brd_legal hdin (BitVec.toNat_ne_iff_ne.mpr hcount) hlast hinit hsel, hread]

/-- Settles O21: a legal BWR is one `busWrite` of the DIN bytes. -/
theorem bwrLandsBurst : Obligations.BwrLandsBurst := by
  intro first count s hdin hcount hlast hinit hsel
  have haddr : first.toNat < 2 ^ addrWidth := by rw [addrWidth]; omega
  obtain ⟨got, chip, hlen, hwrite, hland⟩ := busWrite_frames haddr (dinOf s) s
  refine ⟨got, chip, hdin ▸ hlen, ?_, hland⟩
  rw [exec_bwr_legal hdin (BitVec.toNat_ne_iff_ne.mpr hcount) hlast hinit hsel, hwrite]

/-- Settles O25: exit pops what entry pushed; the other clauses are by the effect of the operation and by the agent
that moved. -/
theorem criticalSectionsRestoreEnable : Obligations.CriticalSectionsRestoreEnable := by
  refine ⟨fun s => ⟨rfl, csExit_csEnter s⟩, fun s t h => ?_, fun i s t h => (exec_effect h).keepsEnable,
    fun s t hsel hctx hp h => (step_mainMove hsel hctx h).keepsEnable hp⟩
  rw [csExit_ie, csExit_savedIe, h]
  exact ⟨rfl, rfl⟩

/-- Settles O26: the closed forms of the two transactions are the frame that the steps send. -/
theorem transactionIsItsByteSteps : Obligations.TransactionIsItsByteSteps := by
  intro addr s haddr hwmask hrmask hne
  have hm : MasksApart s.cfg := ⟨hwmask, hrmask, hne⟩
  refine ⟨fun bytes hlast => ?_, fun n hlast => ?_⟩
  · rw [busWrite_eq]
    have h := steps_frame hm haddr .write bytes hlast
    rwa [openFrame_eq] at h
  · have h := steps_frame hm haddr .read (List.replicate n 0x00) (by rwa [List.length_replicate])
    rw [List.length_replicate, openFrame_eq] at h
    rw [busRead_eq]
    exact h

end Sys2Proof.Machine
end

section
/-! PROOFS. The tick counter family: STOP_BODY, CONFIGURE_BODY and the service in the vocabulary of the statements, what
each timer operation runs once its checks are passed, and the three steps of one serviced edge; then the statements
about spec/43_tick_counter.md. -/

namespace Sys2Proof.Machine

open Sys2Proof.Safety

/-! ### Bytes that land one after another (R83) -/

section
variable {p q r : Peripheral} {addr : Byte}

/-- Bytes that land where as many bytes landed before replace them. -/
theorem landed_overwrite {bs cs : List Byte} (h : Landed addr bs p q) (h' : Landed addr cs q r)
    (hlen : bs.length = cs.length) : Landed addr cs p r := by
  intro a
  rw [h' a, h a, hlen]
  split_ifs <;> rfl

theorem landed_trans_same {bs : List Byte} (h : Landed addr bs p q) (h' : SameRegisters q r) : Landed addr bs p r :=
  fun a => (h' a).trans (h a)

theorem read_of_landed_one {b : Byte} (h : Landed addr [b] p q) (a : Nat) :
    Memory.read q.preg a = if a = addr.toNat then some b else Memory.read p.preg a := by
  rw [h a, List.length_singleton]
  by_cases ha : a = addr.toNat
  · rw [if_pos (by omega), if_pos ha, ha, Nat.sub_self]
    rfl
  · rw [if_neg (by omega), if_neg ha]

/-- The bytes of a writing transaction land from its address on. -/
theorem after_write_landed (addr : Byte) (bytes : List Byte) (p : Peripheral) :
    Landed addr bytes p (Peripheral.after .write addr bytes p) :=
  Peripheral.after_write_read addr bytes p

/-- A byte lands, then one in the next register, then one that replaces the first. -/
theorem landed_reload {next old c b : Byte} {p₁ p₂ : Peripheral} (hnext : next.toNat = addr.toNat + 1)
    (h₁ : Landed addr [old] p p₁) (h₂ : Landed next [b] p₁ p₂) (h₃ : Landed addr [c] p₂ q) :
    Landed addr [c, b] p q := by
  intro a
  rw [read_of_landed_one h₃, read_of_landed_one h₂, read_of_landed_one h₁, hnext]
  by_cases hfirst : a = addr.toNat
  · simp [hfirst]
  · by_cases hsecond : a = addr.toNat + 1
    · simp [hsecond]
    · have hpast : ¬(addr.toNat ≤ a ∧ a < addr.toNat + [c, b].length) := by
        rw [List.length_cons, List.length_singleton]
        omega
      rw [if_neg hfirst, if_neg hsecond, if_neg hfirst, if_neg hpast]

end

/-! ### The timer bodies and the service in the statements' vocabulary -/

/-- The event of a writing transaction, with its command byte as R113 writes it. -/
theorem eventOf_write {addr : Byte} (h : addr.toNat < 2 ^ addrWidth) (bytes : List Byte) (s : State) :
    eventOf .write addr bytes s = writeEvent s s.ctx addr bytes (Peripheral.sentBack .write addr bytes s.chip) := by
  rw [eventOf, commandByte_eq _ _ h]
  rfl

/-- STOP_BODY (R193). -/
theorem stopBody_frames (s : State) :
    ∃ (got : List Byte) (chip : Peripheral),
      stopBody s =
        { withFrames s chip [writeEvent s s.ctx 0x0E [timerCfgStop s.cfg] got] with periodMs := 0 } ∧
      Landed 0x0E [timerCfgStop s.cfg] s.chip chip := by
  rw [stopBody_eq, eventOf_write (by decide)]
  exact ⟨_, Peripheral.after .write 0x0E [timerCfgStop s.cfg] s.chip, rfl, after_write_landed _ _ _⟩

/-- CONFIGURE_BODY (R192): the second write to the configuration register replaces the first. -/
theorem configureBody_frames (k : Byte) (s : State) :
    ∃ (g1 g2 g3 : List Byte) (chip : Peripheral),
      configureBody k s =
        { withFrames s chip
            [writeEvent s s.ctx 0x0E [timerCfgStop s.cfg] g1, writeEvent s s.ctx 0x0F [k] g2,
             writeEvent s s.ctx 0x0E [timerCfgRun s.cfg] g3] with
          periodMs := periodMsOf s.cfg.periodFn k } ∧
      Landed 0x0E [timerCfgRun s.cfg, k] s.chip chip := by
  have hcfg : (0x0E : Byte).toNat < 2 ^ addrWidth := by decide
  have hcount : (0x0F : Byte).toNat < 2 ^ addrWidth := by decide
  rw [configureBody_eq, eventOf_write hcfg, eventOf_write hcount, eventOf_write hcfg]
  have hland := landed_reload rfl (after_write_landed 0x0E [timerCfgStop s.cfg] s.chip) (after_write_landed 0x0F [k] _)
    (after_write_landed 0x0E [timerCfgRun s.cfg] _)
  exact ⟨_, _, _, _, rfl, hland⟩

/-- The whole service (R266, R197, R267), from the main context. -/
theorem runService_frames {s : State} (hctx : s.ctx = .main) :
    ∃ (got : List Byte) (chip : Peripheral),
      runService s =
        { withFrames s chip [writeEvent s .isr 0x01 [s.cfg.ctrl2Tie] got] with
          acc := s.acc + s.periodMs.setWidth 32, tick := true, irqPend := false } ∧
      Landed 0x01 [s.cfg.ctrl2Tie] s.chip chip := by
  rw [runService_eq, ← hctx, eventOf_write (by decide)]
  exact ⟨_, Peripheral.after .write 0x01 [s.cfg.ctrl2Tie] s.chip, rfl, after_write_landed _ _ _⟩

/-! ### The timer operations as checks before a body (R192 to R197) -/

section
variable {s : State} {i : Instr} {run : State → State}

/-- An operation whose only check is that of its DIN length runs once DIN has it. -/
theorem attempt_run (hdin : (dinOf s).length = dinLength i) : attempt [dinDefect i s] run s = .next (run s) := by
  rw [attempt, (dinDefect_eq_none i s).mpr hdin]
  rfl

/-- An operation that needs SETUP alone runs once DIN has its length and SETUP is done. -/
theorem attemptBus_initialized (hdin : (dinOf s).length = dinLength i) (hinit : s.inited = true)
    (hsel : s.sel = false) : attemptBus [dinDefect i s, initDefect s] run s = .next (run s) := by
  rw [(dinDefect_eq_none i s).mpr hdin, (initDefect_eq_none s).mpr hinit]
  exact attemptBus_run rfl hsel

theorem initDefect_uninitialized (h : s.inited = false) : initDefect s = some .notInitialized := by
  rw [initDefect, h]
  rfl

theorem exec_stop (s : State) : exec .stop s = attemptBus [dinDefect .stop s, initDefect s] stopOrFail s := rfl

/-- SETPER 0 acts as STOP (R120). -/
theorem exec_setper_zero (s : State) : exec (.setper 0) s = exec .stop s := rfl

theorem exec_setper_ne_zero {k : Byte} (hk : k ≠ 0) :
    exec (.setper k) s = attemptBus [dinDefect (.setper k) s, initDefect s] (configureOrFail k) s := by
  rw [exec, execSetper, if_neg hk]

theorem respond_eq_answered (st : Status) (v : BitVec 32) (out : List Byte) (s : State) :
    respond st v out s = answered s st v out := rfl

theorem stopOrFail_gated (h : s.cfg.stopGuarded = true ∧ s.fault = true) : stopOrFail s = answered s .fail 0 [] :=
  if_pos ((Bool.and_eq_true ..).mpr h)

theorem stopOrFail_open (h : ¬(s.cfg.stopGuarded = true ∧ s.fault = true)) :
    stopOrFail s = answered (stopBody s) .ok 0 [] := by
  rw [stopOrFail, stopGated, if_neg (by rwa [Bool.and_eq_true]), respond_eq_answered]

theorem configureOrFail_gated {k : Byte} (hf : s.fault = true) : configureOrFail k s = answered s .fail 0 [] :=
  if_pos hf

theorem configureOrFail_open {k : Byte} (hf : ¬s.fault = true) :
    configureOrFail k s = answered (configureBody k s) .ok 0 [] := by
  rw [configureOrFail, faultGated, if_neg hf, respond_eq_answered]

/-- Past every check and the fault gate, SETPER k with k /= 0 is CONFIGURE_BODY and a response (R192). -/
theorem exec_setper_configures {k : Byte} (hk : k ≠ 0) (hdin : dinOf s = []) (hinit : s.inited = true)
    (hsel : s.sel = false) (hf : ¬s.fault = true) :
    exec (.setper k) s = .next (answered (configureBody k s) .ok 0 []) := by
  rw [exec_setper_ne_zero hk, attemptBus_initialized (congrArg List.length hdin) hinit hsel, configureOrFail_open hf]

theorem exec_consume (hdin : dinOf s = []) :
    exec .consume s = .next (answered { s with tick := false } .ok (boolValue s.tick) []) := by
  rw [exec, execConsume, attempt_run (congrArg List.length hdin), respond_eq_answered]
  rfl

end

/-! ### PERIOD_MS_FN (R191) -/

/-- The largest period, that of 255 ticks, fits in 16 bits. -/
theorem periodMsExact_toNat (k : Byte) : (periodMsExact k).toNat = k.toNat * 1000 / 64 := by
  have hk := k.isLt
  rw [periodMsExact, srcHz, BitVec.toNat_ofNat, Nat.mod_eq_of_lt (by omega)]

/-- One period and then `n` more are `n + 1` periods. -/
theorem add_period_succ (acc period : BitVec 32) (n : Nat) :
    acc + period + BitVec.ofNat 32 n * period = acc + BitVec.ofNat 32 (n + 1) * period := by
  have hone : BitVec.ofNat 32 1 = 1 := rfl
  rw [BitVec.ofNat_add, hone]
  ring

/-! ### One serviced edge (R264, R266 to R268) -/

section
variable {s : State}

/-- The service begins in the main context alone (R266). -/
theorem ctx_of_serviceable (h : serviceable s = true) : s.ctx = .main := by
  simp only [serviceable, Bool.and_eq_true, decide_eq_true_eq] at h
  obtain ⟨⟨⟨hctx, -⟩, -⟩, -⟩ := h
  exact hctx

/-- Where the interrupt is enabled outside any frame, a latched edge is serviceable. -/
theorem serviceable_eq_irqPend (h : Settled s) : serviceable s = s.irqPend := by
  obtain ⟨hsel, -, -, -, hctx, hie⟩ := h
  simp [serviceable, hsel, hctx, hie]

theorem withFrames_nil (hsel : s.sel = false) (htxn : s.txn = none) : withFrames s s.chip [] = s := by
  rw [withFrames, ← hsel, ← htxn, List.append_nil]

theorem runService_settled (h : Settled s) : Settled (runService s) := by
  obtain ⟨-, -, hout, hsaved, -, hie⟩ := h
  rw [runService_eq]
  exact ⟨rfl, rfl, hout, hsaved, rfl, hie⟩

/-- On WAIT's turn a latched edge is serviced and the turn kept (R268); then the turn passes. -/
theorem steps_service_wait (h : Settled s) (hpend : s.irqPend = true) (hwait : nextEvent s = .wait) :
    steps 2 s = .next (dropEvent (runService s)) := by
  have hserve : serviceable s = true := (serviceable_eq_irqPend h).trans hpend
  have hserved : Settled (runService s) := runService_settled h
  have hpass : serviceable (runService s) = false := by rw [serviceable_eq_irqPend hserved, runService_eq]
  have hkept : nextEvent (runService s) = .wait := by rw [runService_eq]; exact hwait
  obtain ⟨hsel, -, -, -, -, -⟩ := hserved
  rw [steps_succ 1 (step_service (.inr hwait) hserve), steps_succ 0 (step_wait hsel hkept hpass), steps_zero]

/-- `s` after one edge has been serviced, with `rest` of the agenda to come. -/
def afterEdge (s : State) (got : List Byte) (chip : Peripheral) (rest : List Event) : State :=
  { withFrames s chip [writeEvent s .isr 0x01 [s.cfg.ctrl2Tie] got] with
    acc := s.acc + s.periodMs.setWidth 32, tick := true, agenda := rest }

/-- An edge arrives, is serviced on WAIT's turn, and the turn passes. -/
theorem steps_servicedEdge {rest : List Event} (h : Settled s) (hwired : s.irqWired = true) (hpend : s.irqPend = false)
    (ha : s.agenda = .edge :: .wait :: rest) :
    ∃ (got : List Byte) (chip : Peripheral),
      steps 3 s = .next (afterEdge s got chip rest) ∧ Landed 0x01 [s.cfg.ctrl2Tie] s.chip chip := by
  have hlatched : Settled (edgeArrives (dropEvent s)) := h
  obtain ⟨hsel, -, -, -, hctx, -⟩ := h
  obtain ⟨got, chip, hrun, hland⟩ := runService_frames (s := edgeArrives (dropEvent s)) hctx
  refine ⟨got, chip, ?_, hland⟩
  rw [steps_succ 2 (step_edge hsel (nextEvent_cons ha)),
    steps_service_wait hlatched (by simp [hwired]) (nextEvent_cons (rest := rest) (by simp [ha])), hrun]
  simp [afterEdge, dropEvent, edgeArrives, withFrames, writeEvent, hpend, ha]

end

/-! ### The statements of the tick counter family -/

/-- Settles O29: past the checks, STOP is its OFF path, and SETPER 0 is the same arm. -/
theorem stopPaths : Obligations.StopPaths := by
  intro s hdin hsel
  have hlen : (dinOf s).length = dinLength .stop := congrArg List.length hdin
  refine ⟨exec_setper_zero s, ?_⟩
  rw [exec_stop]
  split_ifs with hinit hgate
  · exact attemptBus_rejected hlen (initDefect_uninitialized hinit)
  · rw [attemptBus_initialized hlen (eq_true_of_ne_false hinit) hsel, stopOrFail_gated hgate]
  · obtain ⟨got, chip, hstop, hland⟩ := stopBody_frames s
    refine ⟨got, chip, ?_, hland⟩
    rw [attemptBus_initialized hlen (eq_true_of_ne_false hinit) hsel, stopOrFail_open hgate, hstop]
    rfl

/-- Settles O28: the OFF path is STOP's, and the other one is CONFIGURE_BODY behind the fault gate. -/
theorem setperPaths : Obligations.SetperPaths := by
  intro k s hdin hsel
  refine ⟨decodeRequest_reqWord rfl (decodeInvertsEncode (.setper k)), ?_⟩
  by_cases hk : k = 0
  · subst hk
    rw [exec_setper_zero, if_pos rfl]
    obtain ⟨-, hstop⟩ := stopPaths s hdin hsel
    exact hstop
  have hlen : (dinOf s).length = dinLength (.setper k) := congrArg List.length hdin
  rw [if_neg hk]
  split_ifs with hinit hfault
  · rw [exec_setper_ne_zero hk]
    exact attemptBus_rejected hlen (initDefect_uninitialized hinit)
  · rw [exec_setper_ne_zero hk, attemptBus_initialized hlen (eq_true_of_ne_false hinit) hsel,
      configureOrFail_gated hfault]
  · obtain ⟨g1, g2, g3, chip, hbody, hland⟩ := configureBody_frames k s
    refine ⟨g1, g2, g3, chip, ?_, hland⟩
    rw [exec_setper_configures hk hdin (eq_true_of_ne_false hinit) hsel hfault, hbody]
    rfl

/-- Settles O33: a serviceable edge is serviced from the main context. -/
theorem serviceEntryBodyReturn : Obligations.ServiceEntryBodyReturn := by
  intro s
  refine ⟨fun hs => ?_, fun hs => ?_⟩
  · obtain ⟨got, chip, hrun, hland⟩ := runService_frames (ctx_of_serviceable hs)
    exact ⟨got, chip, (if_pos hs).trans (congrArg _ hrun), hland⟩
  · exact if_neg (by rw [hs]; exact Bool.false_ne_true)

/-- Settles O34, by induction on the number of edges: the first is serviced, and the rest come from there. -/
theorem servicesAccumulate : Obligations.ServicesAccumulate := by
  intro n
  induction n with
  | zero =>
    intro s rest h _ _ ha
    obtain ⟨hsel, htxn, -, -, -, -⟩ := h
    refine ⟨s.chip, [], rfl, nofun, fun _ _ => rfl, nofun, ?_⟩
    rw [withFrames_nil hsel htxn]
    simp [show rest = s.agenda from ha.symm]
  | succ n ih =>
    intro s rest h hwired hpend ha
    have ha : s.agenda = .edge :: .wait :: (edgesOneByOne n ++ rest) := ha
    obtain ⟨got, chip, hfirst, hland⟩ := steps_servicedEdge h hwired hpend ha
    obtain ⟨-, -, hout, hsaved, hctx, hie⟩ := h
    obtain ⟨chip', events, hlen, hevents, hsame, hlands, hrest⟩ :=
      ih (afterEdge s got chip (edgesOneByOne n ++ rest)) rest ⟨rfl, rfl, hout, hsaved, hctx, hie⟩ hwired hpend rfl
    refine ⟨chip', writeEvent s .isr 0x01 [s.cfg.ctrl2Tie] got :: events, congrArg (· + 1) hlen, ?_, nofun, ?_, ?_⟩
    · intro e he
      obtain rfl | he := List.mem_cons.mp he
      · exact ⟨got, rfl⟩
      · exact hevents e he
    · intro _
      obtain hn | hn := n.eq_zero_or_pos
      · exact landed_trans_same hland (hsame hn)
      · exact landed_overwrite hland (hlands hn) rfl
    · rw [Nat.mul_succ, Nat.add_comm, steps_add 3 (3 * n) hfirst, hrest]
      simp [afterEdge, withFrames, add_period_succ]

/-- Settles O35: the services set TICK exactly where there are any, and a CONSUME leaves it clear. -/
theorem tickSeenOnce : Obligations.TickSeenOnce := by
  intro n s s1 rest h hwired hpend hdin hconsume ha
  cases (exec_consume hdin).symm.trans hconsume
  obtain ⟨chip, events, -, -, -, -, hsteps⟩ :=
    servicesAccumulate n (answered { s with tick := false } .ok (boolValue s.tick) []) rest h hwired hpend ha
  refine ⟨_, _, hsteps, exec_consume rfl, ?_, exec_consume rfl⟩
  simp [answered, withFrames, boolValue]

/-- Settles O36: SETPER caches what PERIOD_MS_FN gives. -/
theorem periodConversion : Obligations.PeriodConversion := by
  intro k s hk hdin hinit hfault hsel hfn
  have hperiod : (answered (configureBody k s) .ok 0 []).periodMs.toNat = k.toNat * 1000 / 64 := by
    rw [answered, configureBody_eq, hfn]
    exact periodMsExact_toNat k
  have hpos : k.toNat ≠ 0 := BitVec.toNat_ne_iff_ne.mpr hk
  have hlt := k.isLt
  exact ⟨_, exec_setper_configures hk hdin hinit hsel (by simp [hfault]), hperiod, by omega, by omega⟩

/-- Settles O30: GETPER has no check but that of DIN, and a critical section around a read changes nothing. -/
theorem getperReadsPeriod : Obligations.GetperReadsPeriod := by
  intro s hdin
  rw [exec, execGetper, attempt_run (congrArg List.length hdin), faultGated]
  split_ifs
  · rfl
  · rfl

/-- Settles O31: what CONSUME answers once DIN is empty. -/
theorem consumeTakesTick : Obligations.ConsumeTakesTick := fun _ hdin => exec_consume hdin

/-- Settles O32: GETMS has no check but that of DIN, and a critical section around a read changes nothing. -/
theorem getmsReadsAccumulator : Obligations.GetmsReadsAccumulator := by
  refine ⟨decodeRequest_reqWord rfl (decodeInvertsEncode .getms), fun s hdin => ?_⟩
  rw [exec, execGetms, attempt_run (congrArg List.length hdin)]
  rfl

end Sys2Proof.Machine
end

section
/-! PROOFS. The driver sequencer family: the checks and the transactions of the time operations, each micro-step of
SETUP and VERIFY on the HOST's turn, and a SETUP during which no edge arrives; then the statements about
spec/44_driver_sequencer.md. -/

namespace Sys2Proof.Machine

open Sys2Proof.Safety

/-! ### The driver's operations as checks before a body (R192, R230 to R232, R250) -/

section
variable (s : State)

theorem exec_setper (k : Byte) :
    exec (.setper k) s = attemptBus [dinDefect (.setper k) s, initDefect s]
      (if k = 0 then stopOrFail else configureOrFail k) s := rfl

theorem exec_cmd (kind len : Byte) :
    exec (.cmd kind len) s = attemptBus [dinDefect (.cmd kind len) s, initDefect s]
      (if kind = 0 then cmdSetTime len else if kind = 1 then cmdPrintTime else endRequest) s := rfl

theorem exec_gettime :
    exec .gettime s = attemptBus [dinDefect .gettime s, initDefect s]
      (readAndRespond 0x02 timeRecordSize (fun _ => 0) (fun bytes => bytes)) s := rfl

theorem exec_getts :
    exec .getts s = attemptBus [dinDefect .getts s, initDefect s]
      (readAndRespond 0x02 timeRecordSize (fun bytes => decodeTime s.cfg.decodeMasks (recordOf bytes))
        (fun _ => [])) s := rfl

theorem exec_settime :
    exec .settime s = attemptBus [dinDefect .settime s, initDefect s] setTime s := rfl

end

/-! ### Before the first SETUP (R221) -/

section
variable {s : State} {run : State → State}

/-- Where the operand check between that of DIN and that of INITED passes, the last one answers. -/
theorem attemptBus_uninitialized {i : Instr} {d : Option Reason} (hdin : (dinOf s).length = dinLength i)
    (hd : d = none) (hinit : s.inited = false) :
    attemptBus [dinDefect i s, d, initDefect s] run s = .next (rejected s .notInitialized) := by
  rw [(dinDefect_eq_none i s).mpr hdin, hd, initDefect_uninitialized hinit]
  exact attemptBus_refuses rfl

theorem addrDefect_legal {a : Byte} (h : addrLegal a = true) : addrDefect a = none :=
  (addrDefect_eq_none a).mpr (of_decide_eq_true h)

theorem burstDefect_legal {a n : Byte} (h : burstLegal a n = true) : burstDefect a n = none := by
  rw [burstLegal, Bool.and_eq_true, decide_eq_true_eq, decide_eq_true_eq] at h
  exact (burstDefect_eq_none a n).mpr (by omega)

end

/-! ### The time operations and STATUS (R230 to R233) -/

/-- A burst read and its response, in the statements' vocabulary (R164). -/
theorem readAndRespond_frames {addr : Byte} (h : addr.toNat < 2 ^ addrWidth) (n : Nat)
    (value : List Byte → BitVec 32) (dout : List Byte → List Byte) (s : State) :
    ∃ (c : Byte) (data : List Byte) (chip : Peripheral), data.length = n ∧
      readAndRespond addr n value dout s =
        answered (withFrames s chip [readEvent s addr c data]) .ok (value data) (dout data) ∧
      SameRegisters s.chip chip := by
  obtain ⟨c, data, chip, hlen, hread, hsame⟩ := busRead_frames h n s
  refine ⟨c, data, chip, hlen, ?_, hsame⟩
  rw [readAndRespond, hread]
  rfl

/-- DECODE of any seven bytes. -/
theorem exec_decode_bytes {s : State} (hdin : (dinOf s).length = timeRecordSize) :
    exec .decode s = .next (answered s .ok (decodeTime s.cfg.decodeMasks (recordOf (dinOf s))) []) :=
  attempt_answers hdin

/-- SetTime writes the DIN bytes from the seconds register on (R232). -/
theorem setTime_frames (s : State) :
    ∃ (got : List Byte) (chip : Peripheral), got.length = (dinOf s).length + 1 ∧
      setTime s = answered (withFrames s chip [writeEvent s s.ctx 0x02 (dinOf s) got]) .ok 0 [] ∧
      Landed 0x02 (dinOf s) s.chip chip := by
  obtain ⟨got, chip, hlen, hwrite, hland⟩ := busWrite_frames (addr := 0x02) (by decide) (dinOf s) s
  refine ⟨got, chip, hlen, ?_, hland⟩
  rw [setTime, hwrite]
  rfl

/-- FAULT is bit 0 and INITED bit 1 (R233). -/
theorem statusValue_eq (s : State) :
    statusValue s =
      BitVec.ofNat 32 ((if s.inited = true then 2 else 0) + (if s.fault = true then 1 else 0)) := by
  rw [statusValue]
  cases s.inited <;> cases s.fault <;> rfl

/-! ### The micro-steps on the HOST's turn (R222, R225) -/

section
variable {s : State}

theorem dropEvent_accepted (h : HostTurn s) : (dropEvent s).refused = none := by
  obtain ⟨-, -, hr, -, -⟩ := h
  exact hr

/-- The OS flag is the top bit of the seconds byte (R74). -/
theorem osFlag_eq_decide (v : Byte) : osFlag v = decide (128 ≤ v.toNat) := by
  rw [osFlag, ← BitVec.msb_eq_getLsbD_last, BitVec.msb_eq_decide]

/-- A micro-step that writes, with the turn's entry taken off the agenda. -/
theorem busWrite_turn {addr : Byte} (h : addr.toNat < 2 ^ addrWidth) (bytes : List Byte) (s : State) (q : Seq) :
    ∃ (got : List Byte) (chip : Peripheral),
      { busWrite addr bytes (dropEvent s) with seq := q } =
        { withFrames s chip [writeEvent s s.ctx addr bytes got] with seq := q, agenda := s.agenda.tail } ∧
      Landed addr bytes s.chip chip := by
  obtain ⟨got, chip, -, hwrite, hland⟩ := busWrite_frames h bytes (dropEvent s)
  refine ⟨got, chip, ?_, hland⟩
  rw [hwrite]
  rfl

theorem step_u2 (h : HostTurn s) (hq : s.seq = .u2) :
    ∃ (c v : Byte) (chip : Peripheral),
      step s = .next { withFrames s chip [readEvent s 0x02 c [v]] with seq := .u3 v, agenda := s.agenda.tail } ∧
      SameRegisters s.chip chip := by
  obtain ⟨c, data, chip, hlen, hread, hsame⟩ := busRead_frames (addr := 0x02) (by decide) 1 (dropEvent s)
  obtain ⟨v, rfl⟩ := List.length_eq_one_iff.mp hlen
  refine ⟨c, v, chip, ?_, hsame⟩
  rw [step_host h, hostMove_u2 (dropEvent_accepted h) hq, stepU2, hread]
  rfl

theorem step_u3_clear {v : Byte} (h : HostTurn s) (hq : s.seq = .u3 v) (hv : v.toNat < 128) :
    step s = .next { s with seq := .u5, agenda := s.agenda.tail } := by
  have hclear : osFlag v = false := (osFlag_eq_decide v).trans (decide_eq_false (Nat.not_le.mpr hv))
  rw [step_host h, hostMove_u3 (dropEvent_accepted h) hq, stepU3, hclear]
  rfl

theorem step_u3_set {v : Byte} (h : HostTurn s) (hq : s.seq = .u3 v) (hv : 128 ≤ v.toNat) :
    ∃ (got : List Byte) (chip : Peripheral),
      step s = .next
        { withFrames s chip [writeEvent s s.ctx (s.cfg.resetReg.setWidth 8) [s.cfg.resetValue] got] with
          seq := .u4, agenda := s.agenda.tail } ∧
      Landed (s.cfg.resetReg.setWidth 8) [s.cfg.resetValue] s.chip chip := by
  have hset : osFlag v = true := (osFlag_eq_decide v).trans (decide_eq_true hv)
  obtain ⟨got, chip, hwrite, hland⟩ := busWrite_turn (setWidth_addr_lt s.cfg.resetReg) [s.cfg.resetValue] s .u4
  refine ⟨got, chip, ?_, hland⟩
  rw [step_host h, hostMove_u3 (dropEvent_accepted h) hq, stepU3, if_pos hset, ← hwrite]
  rfl

/-- The record of timestamp 0: midnight of the first day of the first month (R142). -/
theorem recordBytes_encodeTime_zero (weekday : Byte) :
    recordBytes (encodeTime weekday 0) = [0x00, 0x00, 0x00, 0x01, weekday, 0x01, 0x00] := rfl

theorem step_u4 (h : HostTurn s) (hq : s.seq = .u4) :
    ∃ (got : List Byte) (chip : Peripheral),
      step s = .next
        { withFrames s chip [writeEvent s s.ctx 0x02 [0x00, 0x00, 0x00, 0x01, s.cfg.weekday, 0x01, 0x00] got] with
          seq := .u5, agenda := s.agenda.tail } ∧
      Landed 0x02 [0x00, 0x00, 0x00, 0x01, s.cfg.weekday, 0x01, 0x00] s.chip chip := by
  obtain ⟨got, chip, hwrite, hland⟩ := busWrite_turn (addr := 0x02) (by decide)
    [0x00, 0x00, 0x00, 0x01, s.cfg.weekday, 0x01, 0x00] s .u5
  refine ⟨got, chip, ?_, hland⟩
  rw [step_host h, hostMove_u4 (dropEvent_accepted h) hq, stepU4, recordBytes_encodeTime_zero, ← hwrite]
  rfl

theorem step_u5_source (h : HostTurn s) (hq : s.seq = .u5) (hirq : s.cfg.hasIrq = true) :
    step s = .next { s with irqWired := true, seq := .u6, agenda := s.agenda.tail } := by
  rw [step_host h, hostMove_u5 (dropEvent_accepted h) hq, stepU5, dropEvent_cfg, hirq]
  rfl

theorem step_u5_noSource (h : HostTurn s) (hq : s.seq = .u5) (hirq : s.cfg.hasIrq = false) :
    step s = .next { s with seq := .u7, agenda := s.agenda.tail } := by
  rw [step_host h, hostMove_u5 (dropEvent_accepted h) hq, stepU5, dropEvent_cfg, hirq]
  rfl

theorem step_u6 (h : HostTurn s) (hq : s.seq = .u6) :
    ∃ (got : List Byte) (chip : Peripheral),
      step s = .next
        { withFrames s chip [writeEvent s s.ctx 0x01 [s.cfg.ctrl2Tie] got] with
          seq := .u7, agenda := s.agenda.tail } ∧
      Landed 0x01 [s.cfg.ctrl2Tie] s.chip chip := by
  obtain ⟨got, chip, hwrite, hland⟩ := busWrite_turn (addr := 0x01) (by decide) [s.cfg.ctrl2Tie] s .u7
  refine ⟨got, chip, ?_, hland⟩
  rw [step_host h, hostMove_u6 (dropEvent_accepted h) hq, stepU6, ← hwrite]
  rfl

theorem step_u8 (h : HostTurn s) (hq : s.seq = .u8) :
    step s = .next (answered { s with inited := true, agenda := s.agenda.tail } .ok 0 []) := by
  rw [step_host h, hostMove_u8 (dropEvent_accepted h) hq]
  rfl

theorem step_v1 (h : HostTurn s) (hq : s.seq = .v1) :
    step s = .next { s with tick := false, seq := .v2, agenda := s.agenda.tail } := by
  rw [step_host h, hostMove_v1 (dropEvent_accepted h) hq]
  rfl

theorem step_v2 (h : HostTurn s) (hq : s.seq = .v2) :
    ∃ (g1 g2 g3 : List Byte) (chip : Peripheral),
      step s = .next
        { withFrames s chip
            [writeEvent s s.ctx 0x0E [timerCfgStop s.cfg] g1, writeEvent s s.ctx 0x0F [0x01] g2,
             writeEvent s s.ctx 0x0E [timerCfgRun s.cfg] g3] with
          periodMs := periodMsOf s.cfg.periodFn 1, seq := .v3, agenda := s.agenda.tail } ∧
      Landed 0x0E [timerCfgRun s.cfg, 0x01] s.chip chip := by
  obtain ⟨g1, g2, g3, chip, hbody, hland⟩ := configureBody_frames 1 (dropEvent s)
  refine ⟨g1, g2, g3, chip, ?_, hland⟩
  rw [step_host h, hostMove_v2 (dropEvent_accepted h) hq, stepV2, hbody]
  rfl

/-- V3 reads back as many bytes as V4 compares (R225). -/
theorem verifyExpected_length (cfg : Params) : (verifyExpected cfg).length = verifyCount cfg := by
  rw [verifyExpected, verifyCount]
  cases cfg.verifyReadback <;> rfl

theorem step_v3 (h : HostTurn s) (hq : s.seq = .v3) :
    ∃ (c : Byte) (data : List Byte) (chip : Peripheral), data.length = (verifyExpected s.cfg).length ∧
      step s = .next { withFrames s chip [readEvent s 0x0E c data] with seq := .v4 data, agenda := s.agenda.tail } ∧
      SameRegisters s.chip chip := by
  obtain ⟨c, data, chip, hlen, hread, hsame⟩ :=
    busRead_frames (addr := 0x0E) (by decide) (verifyCount s.cfg) (dropEvent s)
  refine ⟨c, data, chip, hlen.trans (verifyExpected_length s.cfg).symm, ?_, hsame⟩
  rw [step_host h, hostMove_v3 (dropEvent_accepted h) hq, stepV3, dropEvent_cfg, hread]
  rfl

theorem step_v4_match (h : HostTurn s) (hq : s.seq = .v4 (verifyExpected s.cfg)) :
    step s = .next { s with seq := .v5, agenda := s.agenda.tail } := by
  rw [step_host h, hostMove_v4 (dropEvent_accepted h) hq, stepV4, dropEvent_cfg, if_pos rfl]
  rfl

theorem step_v4_mismatch {rb : List Byte} (h : HostTurn s) (hq : s.seq = .v4 rb) (hne : rb ≠ verifyExpected s.cfg) :
    step s = .next { s with fault := true, seq := .u8, agenda := s.agenda.tail } := by
  rw [step_host h, hostMove_v4 (dropEvent_accepted h) hq, stepV4, dropEvent_cfg, if_neg hne]
  rfl

theorem step_v5 (h : HostTurn s) (hq : s.seq = .v5) :
    step s = .next { s with seq := .v6, agenda := s.agenda.tail } := by
  rw [step_host h, hostMove_v5 (dropEvent_accepted h) hq]
  rfl

theorem step_v6 (h : HostTurn s) (hq : s.seq = .v6) :
    ∃ (got : List Byte) (chip : Peripheral),
      step s = .next
        { withFrames s chip [writeEvent s s.ctx 0x0E [timerCfgStop s.cfg] got] with
          periodMs := 0, seq := .v7, agenda := s.agenda.tail } ∧
      Landed 0x0E [timerCfgStop s.cfg] s.chip chip := by
  obtain ⟨got, chip, hbody, hland⟩ := stopBody_frames (dropEvent s)
  refine ⟨got, chip, ?_, hland⟩
  rw [step_host h, hostMove_v6 (dropEvent_accepted h) hq, stepV6, hbody]
  rfl

theorem step_v7 (h : HostTurn s) (hq : s.seq = .v7) :
    step s = .next { s with tick := false, seq := .v8 s.tick, agenda := s.agenda.tail } := by
  rw [step_host h, hostMove_v7 (dropEvent_accepted h) hq]
  rfl

theorem step_v8_seen (h : HostTurn s) (hq : s.seq = .v8 true) :
    step s = .next { s with seq := .u8, agenda := s.agenda.tail } := by
  rw [step_host h, hostMove_v8 (dropEvent_accepted h) hq]
  rfl

theorem step_v8_unseen (h : HostTurn s) (hq : s.seq = .v8 false) :
    step s = .next { s with fault := true, seq := .u8, agenda := s.agenda.tail } := by
  rw [step_host h, hostMove_v8 (dropEvent_accepted h) hq]
  rfl

end

/-! ### A HOST that no edge interrupts -/

/-- Between atomic steps, with no edge latched and nothing on the agenda, the HOST moves at every turn. -/
structure Quiet (s : State) : Prop where
  settled   : Settled s
  accepted  : s.refused = none
  unlatched : s.irqPend = false
  agenda    : s.agenda = []

section
variable {s t : State}

theorem Quiet.hostTurn (h : Quiet s) : HostTurn s := by
  have hserve : serviceable s = false := (serviceable_eq_irqPend h.settled).trans h.unlatched
  obtain ⟨hsel, -, -, -, hctx, -⟩ := h.settled
  exact ⟨hsel, hctx, h.accepted, nextEvent_nil h.agenda, hserve⟩

/-- A turn that no entry of the agenda brought takes none off it. -/
theorem Quiet.dropEvent_eq (h : Quiet s) : dropEvent s = s := by
  rw [dropEvent, h.agenda, List.tail_nil, ← h.agenda]

theorem Quiet.step_eq (h : Quiet s) : step s = hostMove s := by
  rw [step_host h.hostTurn, h.dropEvent_eq]

theorem Quiet.steps_succ (h : Quiet s) (k : Nat) (hmove : hostMove s = .next t) : steps (k + 1) s = steps k t :=
  Machine.steps_succ k (h.step_eq.trans hmove)

theorem SetupEffect.keepsQuiet (e : SetupEffect s t) (h : Quiet s) : Quiet t := by
  obtain ⟨⟨hsel, htxn, hout, hsaved, hctx, hie⟩, hr, hpend, ha⟩ := h
  cases e with
  | moved => exact ⟨⟨rfl, rfl, hout, hsaved, hctx, hie⟩, hr, hpend, ha⟩
  | period => exact ⟨⟨rfl, rfl, hout, hsaved, hctx, hie⟩, hr, hpend, ha⟩
  | _ => exact ⟨⟨hsel, htxn, hout, hsaved, hctx, hie⟩, hr, hpend, ha⟩

/-- A micro-step leaves the queue as it is, and before the last one it gives no response. -/
theorem SetupEffect.host_responses (e : SetupEffect s t) :
    t.host = s.host ∧ (t.seq ≠ .idle → t.responses = s.responses) := by
  cases e with
  | done => exact ⟨rfl, fun h => absurd rfl h⟩
  | _ => exact ⟨rfl, fun _ => rfl⟩

end

section
variable (s : State)

theorem stepV5_effect : SetupEffect s (stepV5 s) := .goesOn _

theorem stepV7_effect : SetupEffect s (stepV7 s) := .tickCleared _

end

/-! ### The end of VERIFY (R225 V5 to V8) -/

/-- The register where the same byte landed `n` times, zero included. -/
theorem read_of_landed_times {n : Nat} {addr b : Byte} {p q : Peripheral} (hsame : n = 0 → SameRegisters p q)
    (hland : 0 < n → Landed addr [b] p q) (a : Nat) :
    Memory.read q.preg a = if a = addr.toNat ∧ 0 < n then some b else Memory.read p.preg a := by
  obtain rfl | hn := n.eq_zero_or_pos
  · simp [hsame rfl a]
  · simp [read_of_landed_one (hland hn), hn]

/-- V8 sets FAULT where no tick was seen. -/
theorem stepV8_eq (t : Bool) (s : State) : stepV8 t s = { s with fault := s.fault || !t, seq := .u8 } := by
  cases t <;> simp [stepV8]

/-- From V5 on, with no edge left to come: the timer is stopped, and FAULT is set where TICK was clear. -/
theorem steps_v5_to_u8 {s : State} (h : Quiet s) (hq : s.seq = .v5) :
    ∃ (got : List Byte) (chip : Peripheral),
      steps 4 s = .next
        { withFrames s chip [writeEvent s .main 0x0E [timerCfgStop s.cfg] got] with
          periodMs := 0, tick := false, fault := s.fault || !s.tick, seq := .u8 } ∧
      Landed 0x0E [timerCfgStop s.cfg] s.chip chip := by
  have hv6 : Quiet (stepV5 s) := (stepV5_effect s).keepsQuiet h
  have hv7 : Quiet (stepV6 (stepV5 s)) := (stepV6_effect _).keepsQuiet hv6
  have hv8 : Quiet (stepV7 (stepV6 (stepV5 s))) := (stepV7_effect _).keepsQuiet hv7
  obtain ⟨-, -, -, -, hctx, -⟩ := hv6.settled
  obtain ⟨got, chip, hbody, hland⟩ := stopBody_frames (stepV5 s)
  rw [hctx] at hbody
  refine ⟨got, chip, ?_, hland⟩
  rw [h.steps_succ 3 (hostMove_v5 h.accepted hq), hv6.steps_succ 2 (hostMove_v6 hv6.accepted rfl),
    hv7.steps_succ 1 (hostMove_v7 hv7.accepted rfl), hv8.steps_succ 0 (hostMove_v8 hv8.accepted rfl), steps_zero,
    stepV8_eq, stepV7, clearTick_eq, stepV6, hbody]
  rfl

/-! ### A SETUP during which no edge arrives (R222, R225, R226, R237) -/

/-- How many micro-steps a SETUP may still take (log 11). -/
def stepsLeft : Seq → Nat
  | .idle => 0
  | .u8 => 1
  | .v8 _ => 2
  | .v7 => 3
  | .v6 => 4
  | .v5 => 5
  | .v4 _ => 6
  | .v3 => 7
  | .v2 => 8
  | .v1 => 9
  | .u7 => 10
  | .u6 => 11
  | .u5 => 12
  | .u4 => 13
  | .u3 _ => 14
  | .u2 => 15

/-- FAULT, IRQ_WIRED and TICK where SEQ stands at `q` in a SETUP begun with IRQ_WIRED = `wired` and met by no edge:
FAULT is clear until VERIFY, and VERIFY, which runs where a source is configured, sees no tick. -/
def FlagsAt (wired : Bool) (s : State) : Seq → Prop
  | .idle => False
  | .u2 | .u3 _ | .u4 | .u5 => s.fault = false ∧ s.irqWired = wired
  | .u6 | .u7 => s.fault = false ∧ s.irqWired = (wired || s.cfg.hasIrq)
  | .v1 => s.cfg.hasIrq = true ∧ s.irqWired = true
  | .v2 | .v3 | .v4 _ | .v5 | .v6 | .v7 => s.cfg.hasIrq = true ∧ s.irqWired = true ∧ s.tick = false
  | .v8 t => s.cfg.hasIrq = true ∧ s.irqWired = true ∧ t = false
  | .u8 => s.fault = s.cfg.hasIrq ∧ s.irqWired = (wired || s.cfg.hasIrq)

/-- `t` ends the SETUP that stands at `s`, with the flags of a SETUP met by no edge. -/
def SetupEnds (wired : Bool) (s t : State) : Prop :=
  t.seq = .idle ∧ t.req = none ∧ t.inited = true ∧ t.fault = s.cfg.hasIrq ∧
    t.irqWired = (wired || s.cfg.hasIrq) ∧ t.acc = s.acc ∧ t.responses = s.responses ++ [⟨.ok, 0, []⟩] ∧
    t.host = s.host

section
variable {s t : State} {wired : Bool}

theorem FlagsAt.ne_idle {q : Seq} (h : FlagsAt wired s q) : q ≠ .idle := by
  rintro rfl
  exact h

/-- `t` stands at a later micro-step than `s`, with the flags as they should be there. -/
def Advances (wired : Bool) (s t : State) : Prop :=
  FlagsAt wired t t.seq ∧ stepsLeft t.seq < stepsLeft s.seq

theorem Advances.of_seq {q : Seq} (q' : Seq) (hq : s.seq = q) (hq' : t.seq = q') (hf : FlagsAt wired t q')
    (hlt : stepsLeft q' < stepsLeft q := by simp [stepsLeft]) : Advances wired s t := by
  rw [Advances, hq, hq']
  exact ⟨hf, hlt⟩

theorem stepU3_advances {v : Byte} (hq : s.seq = .u3 v) (hf : FlagsAt wired s (.u3 v)) :
    Advances wired s (stepU3 v s) := by
  unfold stepU3
  split
  · exact .of_seq .u4 hq rfl (by simpa [FlagsAt] using hf)
  · exact .of_seq .u5 hq rfl hf

theorem stepU5_advances (hq : s.seq = .u5) (hf : FlagsAt wired s .u5) : Advances wired s (stepU5 s) := by
  obtain ⟨hfault, hwired⟩ := hf
  unfold stepU5
  split
  next hirq => exact .of_seq .u6 hq rfl ⟨hfault, by simp [hirq]⟩
  next hirq => exact .of_seq .u7 hq rfl ⟨hfault, by simp [hirq, hwired]⟩

/-- VERIFY goes on only where a source is configured; without one FAULT stays clear. -/
theorem stepV0_advances (hq : s.seq = .u7) (hf : FlagsAt wired s .u7) : Advances wired s (stepV0 s) := by
  obtain ⟨hfault, hwired⟩ := hf
  cases hirq : s.cfg.hasIrq with
  | true => exact .of_seq .v1 hq (by simp [stepV0, hirq]) ⟨hirq, by simp [stepV0, hirq, hwired]⟩
  | false => exact .of_seq .u8 hq (by simp [stepV0, hirq]) ⟨hfault.trans hirq.symm, hwired⟩

theorem stepV4_advances {rb : List Byte} (hq : s.seq = .v4 rb) (hf : FlagsAt wired s (.v4 rb)) :
    Advances wired s (stepV4 rb s) := by
  obtain ⟨hirq, hwired, htick⟩ := hf
  unfold stepV4
  split
  · exact .of_seq .v5 hq rfl ⟨hirq, hwired, htick⟩
  · exact .of_seq .u8 hq rfl ⟨hirq.symm, by simp [hirq, hwired]⟩

/-- No tick was seen, so the self-test fails. -/
theorem stepV8_advances {tick : Bool} (hq : s.seq = .v8 tick) (hf : FlagsAt wired s (.v8 tick)) :
    Advances wired s (stepV8 tick s) := by
  obtain ⟨hirq, hwired, rfl⟩ := hf
  exact .of_seq .u8 hq rfl ⟨hirq.symm, by simp [stepV8, hirq, hwired]⟩

/-- Every micro-step but the last goes on to a later one and keeps the flags. -/
theorem FlagsAt.next (hr : s.refused = none) (hf : FlagsAt wired s s.seq) (hlast : s.seq ≠ .u8) :
    ∃ t, hostMove s = .next t ∧ Advances wired s t := by
  cases hq : s.seq with
  | idle => exact absurd hq hf.ne_idle
  | u8 => exact absurd hq hlast
  | u2 => exact ⟨_, hostMove_u2 hr hq, .of_seq (.u3 _) hq rfl (by simpa [FlagsAt, stepU2, hq] using hf)⟩
  | u3 v => exact ⟨_, hostMove_u3 hr hq, stepU3_advances hq (hq ▸ hf)⟩
  | u4 => exact ⟨_, hostMove_u4 hr hq, .of_seq .u5 hq rfl (by simpa [FlagsAt, stepU4, hq] using hf)⟩
  | u5 => exact ⟨_, hostMove_u5 hr hq, stepU5_advances hq (hq ▸ hf)⟩
  | u6 => exact ⟨_, hostMove_u6 hr hq, .of_seq .u7 hq rfl (by simpa [FlagsAt, stepU6, hq] using hf)⟩
  | u7 => exact ⟨_, hostMove_u7 hr hq, stepV0_advances hq (hq ▸ hf)⟩
  | v1 => exact ⟨_, hostMove_v1 hr hq, .of_seq .v2 hq rfl (by simpa [FlagsAt, stepV1, clearTick_eq, hq] using hf)⟩
  | v2 => exact ⟨_, hostMove_v2 hr hq, .of_seq .v3 hq rfl
      (by simpa [FlagsAt, stepV2, configureBody_eq, hq] using hf)⟩
  | v3 => exact ⟨_, hostMove_v3 hr hq, .of_seq (.v4 _) hq rfl (by simpa [FlagsAt, stepV3, hq] using hf)⟩
  | v4 rb => exact ⟨_, hostMove_v4 hr hq, stepV4_advances hq (hq ▸ hf)⟩
  | v5 => exact ⟨_, hostMove_v5 hr hq, .of_seq .v6 hq rfl (by simpa [FlagsAt, stepV5, hq] using hf)⟩
  | v6 => exact ⟨_, hostMove_v6 hr hq, .of_seq .v7 hq rfl (by simpa [FlagsAt, stepV6, stopBody_eq, hq] using hf)⟩
  | v7 => exact ⟨_, hostMove_v7 hr hq, .of_seq (.v8 _) hq rfl
      (by simpa [FlagsAt, stepV7, clearTick_eq, hq] using hf)⟩
  | v8 tick => exact ⟨_, hostMove_v8 hr hq, stepV8_advances hq (hq ▸ hf)⟩

theorem SetupEnds.of_next {u : State} (e : SetupEffect s t) (hidle : t.seq ≠ .idle) (h : SetupEnds wired t u) :
    SetupEnds wired s u := by
  obtain ⟨hacc, hcfg, -, -⟩ := e.kept
  obtain ⟨hhost, hresponses⟩ := e.host_responses
  rwa [SetupEnds, hacc, hcfg, hhost, hresponses hidle] at h

/-- U8 is the last micro-step. -/
theorem stepU8_setupEnds (hf : FlagsAt wired s .u8) : SetupEnds wired s (stepU8 s) := by
  obtain ⟨hfault, hwired⟩ := hf
  exact ⟨rfl, rfl, rfl, hfault, hwired, rfl, rfl, rfl⟩

/-- A SETUP that no edge interrupts ends within the micro-steps it has left. -/
theorem setup_ends (n : Nat) :
    ∀ s : State, Quiet s → FlagsAt wired s s.seq → stepsLeft s.seq ≤ n →
      ∃ k t, k ≤ n ∧ steps k s = .next t ∧ SetupEnds wired s t := by
  induction n with
  | zero =>
    intro s _ hf hn
    cases hq : s.seq with
    | idle => exact absurd hq hf.ne_idle
    | _ => simp [hq, stepsLeft] at hn
  | succ n ih =>
    intro s h hf hn
    by_cases hlast : s.seq = .u8
    · exact ⟨1, stepU8 s, by omega, h.steps_succ 0 (hostMove_u8 h.accepted hlast), stepU8_setupEnds (hlast ▸ hf)⟩
    · obtain ⟨t, hmove, hflags, hlt⟩ := hf.next h.accepted hlast
      have e := hostMove_setupEffect hf.ne_idle hmove
      obtain ⟨k, u, hk, hsteps, hend⟩ := ih t (e.keepsQuiet h) hflags (by omega)
      exact ⟨k + 1, u, by omega, (h.steps_succ k hmove).trans hsteps, hend.of_next e hflags.ne_idle⟩

end

/-! ### The statements of the driver sequencer family -/

/-- Settles O23: DIN and the operands are legal, so the check of INITED answers. -/
theorem busOperationsNeedSetup : Obligations.BusOperationsNeedSetup := by
  intro i s hinit hwf hdin hi
  have hbad := initDefect_uninitialized hinit
  cases i with
  | rdreg addr => rw [exec_rdreg]; exact attemptBus_uninitialized hdin (addrDefect_legal hwf) hinit
  | wrreg addr v => rw [exec_wrreg]; exact attemptBus_uninitialized hdin (addrDefect_legal hwf) hinit
  | brd first count => rw [exec_brd]; exact attemptBus_uninitialized hdin (burstDefect_legal hwf) hinit
  | bwr first count => rw [exec_bwr]; exact attemptBus_uninitialized hdin (burstDefect_legal hwf) hinit
  | setper k => rw [exec_setper]; exact attemptBus_rejected hdin hbad
  | stop => rw [exec_stop]; exact attemptBus_rejected hdin hbad
  | gettime => rw [exec_gettime]; exact attemptBus_rejected hdin hbad
  | getts => rw [exec_getts]; exact attemptBus_rejected hdin hbad
  | settime => rw [exec_settime]; exact attemptBus_rejected hdin hbad
  | cmd kind len => rw [exec_cmd]; exact attemptBus_rejected hdin hbad
  | _ => exact hi.elim

/-- Settles O37: the paths of SETPER, STOP and GETPER while FAULT = 1. -/
theorem faultGating : Obligations.FaultGating := by
  intro k s hfault hinit hdin hsel
  have hready : ¬s.inited = false := by simp [hinit]
  refine ⟨fun hk => ?_, ?_, fun hguard => ?_, fun hguard => ?_⟩
  · obtain ⟨-, hset⟩ := setperPaths k s hdin hsel
    rwa [if_neg hready, if_neg hk, if_pos hfault] at hset
  · rw [getperReadsPeriod s hdin, if_pos hfault]
  · obtain ⟨hzero, hstop⟩ := stopPaths s hdin hsel
    rw [if_neg hready, if_pos ⟨hguard, hfault⟩] at hstop
    exact ⟨hstop, hzero.trans hstop⟩
  · obtain ⟨hzero, hstop⟩ := stopPaths s hdin hsel
    rw [if_neg hready, if_neg (by simp [hguard])] at hstop
    obtain ⟨got, chip, hstop, -⟩ := hstop
    exact ⟨⟨_, hstop, rfl, rfl⟩, ⟨_, hzero.trans hstop, rfl, rfl⟩⟩

/-- Settles O38: SETUP has no check but that of DIN. -/
theorem setupBegins : Obligations.SetupBegins :=
  ⟨decodeRequest_reqWord rfl (decodeInvertsEncode .setup), fun _ hdin => attempt_run (congrArg List.length hdin)⟩

/-- Settles O39, by where SEQ stands. -/
theorem verifyBegins : Obligations.VerifyBegins := fun _ => ⟨fun hq => if_pos hq, fun hq => if_neg hq⟩

/-- Settles O40, step by step. -/
theorem setupRecoversOscillatorStop : Obligations.SetupRecoversOscillatorStop := fun _ h =>
  ⟨step_u2 h, fun _ => step_u3_clear h, fun _ => step_u3_set h, step_u4 h⟩

/-- Settles O41, step by step; U5 by the configuration. -/
theorem setupWiresAndEnds : Obligations.SetupWiresAndEnds := fun _ h =>
  ⟨step_u5_source h, step_u5_noSource h, step_u6 h, step_u8 h⟩

/-- Settles O42, step by step; V4 by the comparison. -/
theorem verifyReadsBack : Obligations.VerifyReadsBack := fun _ h =>
  ⟨step_v1 h, step_v2 h, step_v3 h, step_v4_match h, fun _ => step_v4_mismatch h⟩

/-- Settles O43: the edges of the wait are serviced one by one, and the last four steps see whether there were any. -/
theorem verifyWaitDecidesFault : Obligations.VerifyWaitDecidesFault := by
  refine ⟨fun s h => ⟨step_v5 h, step_v6 h, step_v7 h, step_v8_seen h, step_v8_unseen h⟩,
    fun n s h hr hwired hpend hq ha => ?_⟩
  obtain ⟨chip, events, hlen, hevents, hsame, hlands, hserved⟩ :=
    servicesAccumulate n s [] h hwired hpend (ha.trans (List.append_nil _).symm)
  obtain ⟨-, -, hout, hsaved, hctx, hie⟩ := h
  obtain ⟨got, chip', hend, hstop⟩ := steps_v5_to_u8 (s := { withFrames s chip events with
    acc := s.acc + BitVec.ofNat 32 n * s.periodMs.setWidth 32, tick := s.tick || decide (0 < n), agenda := [] })
    ⟨⟨rfl, rfl, hout, hsaved, hctx, hie⟩, hr, hpend, rfl⟩ hq
  refine ⟨got, chip', events, hlen, hevents, ?_, fun a => ?_⟩
  · rw [steps_add (3 * n) 4 hserved, hend]
    simp [withFrames, writeEvent, Nat.pos_iff_ne_zero]
  · have hacks := read_of_landed_times hsame hlands a
    exact (read_of_landed_one hstop a).trans
      (congrArg (fun v => if a = 0x0E then some (timerCfgStop s.cfg) else v) hacks)

/-- Settles O44: SETUP is issued, and each of its at most 15 further micro-steps keeps the flags. -/
theorem setupWithoutEdges : Obligations.SetupWithoutEdges := by
  intro s rest h hr hpend hq ha hhost
  have hturn : HostTurn s := Quiet.hostTurn ⟨h, hr, hpend, ha⟩
  have hissue := stepRunsDecodedRequest s _ rest .setup hturn hq hhost rfl
  obtain ⟨-, hbegin⟩ := setupBegins
  rw [hbegin _ rfl] at hissue
  obtain ⟨k, t, hk, hsteps, hend⟩ :=
    setup_ends 15
      { s with host := rest, req := some ⟨0x30, []⟩, agenda := s.agenda.tail, fault := false, seq := .u2 }
      ⟨h, hr, hpend, congrArg List.tail ha⟩ ⟨rfl, rfl⟩ (Nat.le_refl 15)
  exact ⟨k + 1, t, Nat.succ_le_succ hk, (steps_succ k hissue).trans hsteps, hend⟩

/-- Settles O45: GETTIME is one burst read of the record. -/
theorem gettimeReturnsRawBytes : Obligations.GettimeReturnsRawBytes := by
  intro s hdin hinit hsel
  rw [exec_gettime, attemptBus_initialized (congrArg List.length hdin) hinit hsel]
  obtain ⟨c, data, chip, hlen, hrun, hsame⟩ :=
    readAndRespond_frames (addr := 0x02) (by decide) timeRecordSize (fun _ => 0) (fun bytes => bytes) s
  exact ⟨c, data, chip, hlen, congrArg _ hrun, hsame⟩

/-- Settles O46: GETTS is the same burst read, and decodes the bytes as DECODE does. -/
theorem gettsDecodesOneSnapshot : Obligations.GettsDecodesOneSnapshot := by
  refine ⟨decodeRequest_reqWord rfl (decodeInvertsEncode .getts), fun s hdin => ?_⟩
  have hlen : (dinOf s).length = dinLength .getts := congrArg List.length hdin
  rw [exec_getts]
  refine ⟨fun hinit => attemptBus_rejected hlen (initDefect_uninitialized hinit), fun hinit hsel => ?_⟩
  rw [attemptBus_initialized hlen hinit hsel]
  obtain ⟨c, data, chip, hseven, hrun, hsame⟩ := readAndRespond_frames (addr := 0x02) (by decide) timeRecordSize
    (fun bytes => decodeTime s.cfg.decodeMasks (recordOf bytes)) (fun _ => []) s
  refine ⟨c, data, chip, _, hseven, congrArg _ hrun, hsame, fun s' hcfg hdin' => ?_⟩
  rw [exec_decode_bytes (hdin' ▸ hseven), hcfg, hdin']

/-- Settles O47: the checks in their order, then one `busWrite` of the DIN bytes. -/
theorem settimeWritesRecord : Obligations.SettimeWritesRecord := by
  refine ⟨decodeRequest_reqWord rfl (decodeInvertsEncode .settime), fun s => ?_⟩
  split_ifs with hlen hinit
  · exact exec_badLength rfl hlen
  · rw [exec_settime]
    exact attemptBus_rejected (not_not.mp hlen) (initDefect_uninitialized hinit)
  · intro hsel
    obtain ⟨got, chip, hgot, hrun, hland⟩ := setTime_frames s
    rw [exec_settime, attemptBus_initialized (not_not.mp hlen) (eq_true_of_ne_false hinit) hsel]
    exact ⟨got, chip, by rw [hgot, not_not.mp hlen], congrArg _ hrun, hland⟩

/-- Settles O48: STATUS has no check but that of DIN. -/
theorem statusReadsFlags : Obligations.StatusReadsFlags := by
  intro s hdin
  rw [← statusValue_eq]
  exact attempt_answers (congrArg List.length hdin)

end Sys2Proof.Machine
end

section
/-! PROOFS. The command boundary family: CMD past its checks, one equation or transaction per kind; then the statements
about spec/45_command_boundary.md. -/

namespace Sys2Proof.Machine

open Sys2Proof.Safety

/-! ### CMD past its checks, by kind (R250 to R253) -/

section
variable {s : State} {len : Byte}

/-- Once DIN has its length and SETUP is done, CMD is what its kind names (R250). -/
theorem exec_cmd_initialized {kind : Byte} (hdin : (dinOf s).length = len.toNat) (hinit : s.inited = true)
    (hsel : s.sel = false) :
    exec (.cmd kind len) s =
      .next ((if kind = 0 then cmdSetTime len else if kind = 1 then cmdPrintTime else endRequest) s) := by
  rw [exec_cmd]
  exact attemptBus_initialized hdin hinit hsel

theorem cmdSetTime_seven (s : State) : cmdSetTime 7 s = setTime s := rfl

theorem cmdSetTime_wrongSize (h : len ≠ 7) (s : State) : cmdSetTime len s = answered s .dataSizeError 0 [] :=
  if_neg fun hlen => h (BitVec.eq_of_toNat_eq hlen)

theorem cmdPrintTime_noSink (h : s.cfg.hasSink = false) : cmdPrintTime s = answered s .generalError 0 [] :=
  if_neg (ne_true_of_eq_false h)

theorem cmdPrintTime_sink (h : s.cfg.hasSink = true) :
    cmdPrintTime s =
      readAndRespond 0x02 timeRecordSize (fun _ => 0) (fun bytes => formatRecord (recordOf bytes)) s :=
  if_pos h

/-- FORMAT of any seven bytes. -/
theorem exec_format_bytes (hdin : (dinOf s).length = timeRecordSize) :
    exec .format s = .next (answered s .ok 0 (formatRecord (recordOf (dinOf s)))) :=
  attempt_answers hdin

end

/-! ### The statements of the command boundary family -/

/-- Settles O49: the check of INITED first, then that of the size, then SETTIME's own write. -/
theorem cmdSetTime_paths : Obligations.CmdSetTime := by
  intro len s hdin hsel
  split_ifs with hinit hlen
  · rw [exec_cmd]
    exact attemptBus_rejected hdin (initDefect_uninitialized hinit)
  · rw [exec_cmd_initialized hdin (eq_true_of_ne_false hinit) hsel, if_pos rfl, cmdSetTime_wrongSize hlen]
  · obtain rfl : len = 7 := not_not.mp hlen
    obtain ⟨got, chip, hgot, hrun, hland⟩ := setTime_frames s
    rw [exec_cmd_initialized hdin (eq_true_of_ne_false hinit) hsel, if_pos rfl, cmdSetTime_seven]
    exact ⟨got, chip, hgot.trans (congrArg (· + 1) hdin), congrArg _ hrun, hland⟩

/-- Settles O50: with a sink, one burst read of the record, formatted as FORMAT formats it. -/
theorem cmdPrintTime_paths : Obligations.CmdPrintTime := by
  intro len s hdin hinit hsel
  rw [exec_cmd_initialized hdin hinit hsel, if_neg (by decide), if_pos rfl]
  refine ⟨fun hsink => congrArg _ (cmdPrintTime_noSink hsink), fun hsink => ?_⟩
  rw [cmdPrintTime_sink hsink]
  obtain ⟨c, data, chip, hseven, hrun, hsame⟩ := readAndRespond_frames (addr := 0x02) (by decide) timeRecordSize
    (fun _ => 0) (fun bytes => formatRecord (recordOf bytes)) s
  refine ⟨c, data, _, chip, hseven, congrArg _ hrun, hsame, fun s' hdin' => ?_⟩
  rw [exec_format_bytes (hdin' ▸ hseven), hdin']

/-- Settles O51: past its checks, a CMD of any other kind only ends its request. -/
theorem cmdUnrecognizedIsSilent : Obligations.CmdUnrecognizedIsSilent := by
  intro kind len s hset hprint hdin hinit hsel
  rw [exec_cmd_initialized hdin hinit hsel, if_neg hset, if_neg hprint]
  rfl

end Sys2Proof.Machine
end

section
/-! PROOFS. The exceptions family: a turn with nothing serviceable is the HOST's own move, and that move leaves the
latch as it is; then the statements about spec/60_exceptions.md. -/

namespace Sys2Proof.Machine

open Sys2Proof.Safety

/-! ### The HOST's turn with nothing to service (R266, R268) -/

section
variable {s t : State}

/-- In the main context outside a frame, IE and the latch decide whether an edge is serviced (R266). -/
theorem serviceable_iff (hctx : s.ctx = .main) (hsel : s.sel = false) :
    serviceable s = true ↔ s.ie = true ∧ s.irqPend = true := by
  simp [serviceable, hctx, hsel]

theorem serviceable_eq_false (hctx : s.ctx = .main) (hsel : s.sel = false) (h : s.ie = false ∨ s.irqPend = false) :
    serviceable s = false := by
  rw [← Bool.not_eq_true, serviceable_iff hctx hsel, not_and_or]
  exact h.imp ne_true_of_eq_false ne_true_of_eq_false

/-- The HOST's turn is the HOST's move, refused or not. -/
theorem step_hostMove (hsel : s.sel = false) (hctx : s.ctx = .main) (he : nextEvent s = .host)
    (hs : serviceable s = false) : step s = hostMove (dropEvent s) := by
  simp [step, nextMove, hsel, hctx, he, hs, hostTurn]

/-! ### The latch (R36) -/

theorem OpEffect.irqPend_eq {i : Instr} (h : OpEffect s i t) : t.irqPend = s.irqPend ∨ serviceable s = true := by
  cases h with
  | serviced hs => exact .inr hs
  | _ => exact .inl rfl

theorem SetupEffect.irqPend_eq (h : SetupEffect s t) : t.irqPend = s.irqPend := by
  cases h <;> rfl

/-- Issuing a request leaves the latch, whether the request decodes or not. -/
theorem issue_irqPend {r : Request} (hs : serviceable s = false) (h : issue r s = .next t) :
    t.irqPend = s.irqPend := by
  unfold issue at h
  split at h
  · cases h
    rfl
  · exact (exec_effect h).irqPend_eq.resolve_right (ne_true_of_eq_false hs)

/-- With nothing to service the HOST's move leaves the latch. -/
theorem hostMove_irqPend (hs : serviceable s = false) (h : hostMove s = .next t) : t.irqPend = s.irqPend := by
  by_cases hq : s.seq = .idle
  · have hr := not_refused_of_hostMove h
    cases hh : s.host with
    | nil => cases (hostMove_wait hr hq hh).symm.trans h; rfl
    | cons r rest => exact issue_irqPend (s := { s with host := rest }) hs ((hostMove_issue hr hq hh).symm.trans h)
  · exact (hostMove_setupEffect hq h).irqPend_eq

end

/-! ### The statements of the exceptions family -/

/-- Settles O53: a serviceable edge takes the turn, and without one the HOST's move touches neither latch nor clock. -/
theorem serviceBeforeHost : Obligations.ServiceBeforeHost := by
  refine ⟨fun s hctx hie hpend hsel he => ?_, fun s hctx hsel hmasked => ?_⟩
  · have hs : serviceable s = true := (serviceable_iff hctx hsel).mpr ⟨hie, hpend⟩
    refine ⟨_, step_service (.inl he) hs, ?_⟩
    rw [runService_eq]
    exact ⟨rfl, rfl, rfl, rfl, rfl, rfl, rfl, rfl, hie, rfl⟩
  · have hs : serviceable s = false := serviceable_eq_false hctx hsel hmasked
    refine ⟨fun he => step_hostMove hsel hctx he hs, fun he => step_wait hsel he hs, fun he t ht => ?_⟩
    have hmove : hostMove (dropEvent s) = .next t := (step_hostMove hsel hctx he hs).symm.trans ht
    obtain ⟨hacc, htick⟩ := onlyServiceAdvancesClock s t ht (.inr (by simp [he]))
    have hidle : ¬serviceable s = true := ne_true_of_eq_false hs
    refine ⟨hostMove_irqPend (s := dropEvent s) hs hmove, ?_, fun hclear => ?_⟩
    · by_contra hne
      obtain ⟨hserve, -⟩ := hacc hne
      exact hidle hserve
    · by_contra hset
      exact hidle (htick hclear (eq_true_of_ne_false hset))

/-- Settles O7: the HOST issues the head of its queue, and the refusal leaves no request in progress. -/
theorem stepRefusesUndecodedRequest : Obligations.StepRefusesUndecodedRequest := by
  intro s r rest reason hturn hq hhost hreq hdec
  rw [step_host hturn, hostMove_issue (s := dropEvent s) (dropEvent_accepted hturn) hq hhost, issue, hdec]
  simp only [refuse, dropEvent, Option.map_some, hreq]

/-- Settles O9: a HOST with an empty queue waits. -/
theorem idleHostWaits : Obligations.IdleHostWaits := by
  intro s hturn hq hhost
  rw [step_host hturn, hostMove_wait (s := dropEvent s) (dropEvent_accepted hturn) hq hhost]
  rfl

/-- Settles O52, by the event at the head of the agenda. -/
theorem outsideEvents : Obligations.OutsideEvents := by
  intro s rest hsel
  refine ⟨fun ha => ?_, fun ha hs => ?_, fun ha => ?_⟩
  · rw [step_edge hsel (nextEvent_cons ha), edgeArrives, dropEvent, ha]
    cases s.irqWired <;> simp
  · rw [step_wait hsel (nextEvent_cons ha) hs, dropEvent, ha]
    rfl
  · rw [step_bindSecond hsel (nextEvent_cons ha), bindSecond, dropEvent, ha]
    rfl

/-- Settles O54: the turn is the HOST's move, which a refusal stops. -/
theorem refusedHostHasNoStep : Obligations.RefusedHostHasNoStep := by
  intro s hr hsel hctx he hs
  rw [step_hostMove hsel hctx he hs]
  exact hostMove_refused (s := dropEvent s) hr

end Sys2Proof.Machine
end

section
/-! PROOFS. The reset and hazards family: what a power-on step leaves of the state. -/

namespace Sys2Proof.Machine

/-- Settles O55: the step is power-on once the event is used up, and `State.reset` holds the values of R48. -/
theorem powerOnResets : Obligations.PowerOnResets := by
  intro s rest hsel ha
  rw [step_powerOn hsel (nextEvent_cons ha), powerOn, dropEvent, ha]
  simp only [State.reset, List.tail_cons]

end Sys2Proof.Machine
end
